-- ==== Sys2Proof/Word.lean ====
section
/-!
DEFINITION. The word types of the machine (spec/00_scope.md R6, R9): 8-bit data, 16-bit addresses and
register pairs, 2-bit shades and colour ids.
-/

namespace Sys2Proof

/-- A data byte, `u8` (R9). -/
abbrev Byte := BitVec 8

/-- A 16-bit value: an address, a register pair, SP or pc, `u16` (R6, R9). -/
abbrev Word := BitVec 16

/-- A colour id before palette mapping, or a shade after it (R20). -/
abbrev Shade := BitVec 2

end Sys2Proof
end

