-- ==== Sys2Proof/Machine/Bits.lean ====
section
/-!
DEFINITION. Bit-field, byte-order and sign-extension helpers (spec/00_scope.md R8 to R10). They stand in
this folder, not in Word.lean, so that a later repair can mend them.
-/

namespace Sys2Proof

/-- `{hi, lo}`: the 16-bit value `hi × 256 + lo` (R8). -/
def wordOf (hi lo : Byte) : Word := hi ++ lo

/-- `v[15:8]` (R8). -/
def hiByte (v : Word) : Byte := v.extractLsb' 8 8

/-- `v[7:0]` (R8). -/
def loByte (v : Word) : Byte := v.extractLsb' 0 8

/-- `sext_16` of an 8-bit value (R10). -/
def sext16 (v : Byte) : Word := v.signExtend 16

/-- `signed8`: the two's complement reading of a byte (R10). -/
def signed8 (v : Byte) : Int := v.toInt

/-- A Bool as the number 0 or 1 (R9). -/
def boolNat (c : Bool) : Nat := if c then 1 else 0

/-- A Bool as a byte 0 or 1 (R9). -/
def boolByte (c : Bool) : Byte := if c then 1 else 0

/-- The one-bit mask `1 << b` of a 3-bit index (R9). -/
def bitMask (b : BitVec 3) : Byte := (1 : Byte) <<< b.toNat

/-- The shade a palette byte gives to a colour id: `pal[2c+1:2c]` (10_state.md R124, R125). -/
def shadeOf (palette : Byte) (colour : Shade) : Shade := (palette >>> (2 * colour.toNat)).setWidth 2

/-- The 2-bit value `{hi, lo}` of two bits (R8). -/
def twoBits (hi lo : Bool) : Shade := BitVec.ofBool hi ++ BitVec.ofBool lo

end Sys2Proof
end

