-- ==== Sys2Proof/Syntax.lean ====
section
/-!
DEFINITION. The abstract syntax: one constructor for every row of spec/opcode_table.json, in the table's
order (spec/30_encoding.md R305 to R313), the rows with an operand first (compiled Lean gives a constructor with
fields a tag below 245). A constructor's operands are the bytes the row leaves open: an
immediate, an address, an offset; everything else is in its name. `Ind` marks a memory operand in
parentheses, `Inc` and `Dec` the `+` and `-` of (HL+) and (HL-).
-/

namespace Sys2Proof

/-- An instruction. -/
inductive Instr where
  /-- `LD BC, n16` (R420), 01 -/
  | ldBcN16 (n : Word)
  /-- `LD B, n8` (R404), 06 -/
  | ldBN8 (n : Byte)
  /-- `LD (a16), SP` (R421), 08 -/
  | ldIndA16Sp (a : Word)
  /-- `LD C, n8` (R404), 0E -/
  | ldCN8 (n : Byte)
  /-- `STOP` (R1112), 10 -/
  | stop (ignored : Byte)
  /-- `LD DE, n16` (R420), 11 -/
  | ldDeN16 (n : Word)
  /-- `LD D, n8` (R404), 16 -/
  | ldDN8 (n : Byte)
  /-- `JR e8` (R913), 18 -/
  | jrE8 (e : Byte)
  /-- `LD E, n8` (R404), 1E -/
  | ldEN8 (n : Byte)
  /-- `JR NZ, e8` (R914), 20 -/
  | jrNzE8 (e : Byte)
  /-- `LD HL, n16` (R420), 21 -/
  | ldHlN16 (n : Word)
  /-- `LD H, n8` (R404), 26 -/
  | ldHN8 (n : Byte)
  /-- `JR Z, e8` (R914), 28 -/
  | jrZE8 (e : Byte)
  /-- `LD L, n8` (R404), 2E -/
  | ldLN8 (n : Byte)
  /-- `JR NC, e8` (R914), 30 -/
  | jrNcE8 (e : Byte)
  /-- `LD SP, n16` (R420), 31 -/
  | ldSpN16 (n : Word)
  /-- `LD (HL), n8` (R405), 36 -/
  | ldIndHlN8 (n : Byte)
  /-- `JR C, e8` (R914), 38 -/
  | jrCE8 (e : Byte)
  /-- `LD A, n8` (R404), 3E -/
  | ldAN8 (n : Byte)
  /-- `JP NZ, a16` (R911), C2 -/
  | jpNzA16 (a : Word)
  /-- `JP a16` (R910), C3 -/
  | jpA16 (a : Word)
  /-- `CALL NZ, a16` (R916), C4 -/
  | callNzA16 (a : Word)
  /-- `ADD A, n8` (R512), C6 -/
  | addAN8 (n : Byte)
  /-- `JP Z, a16` (R911), CA -/
  | jpZA16 (a : Word)
  /-- `PREFIX CB` (R1117), CB and its second opcode byte. The decoder gives these words the constructor of
  the CB row instead (R308), so this spelling is not well-formed (WellFormed.lean). -/
  | prefixCb (op2 : Byte)
  /-- `CALL Z, a16` (R916), CC -/
  | callZA16 (a : Word)
  /-- `CALL a16` (R915), CD -/
  | callA16 (a : Word)
  /-- `ADC A, n8` (R515), CE -/
  | adcAN8 (n : Byte)
  /-- `JP NC, a16` (R911), D2 -/
  | jpNcA16 (a : Word)
  /-- `CALL NC, a16` (R916), D4 -/
  | callNcA16 (a : Word)
  /-- `SUB A, n8` (R518), D6 -/
  | subAN8 (n : Byte)
  /-- `JP C, a16` (R911), DA -/
  | jpCA16 (a : Word)
  /-- `CALL C, a16` (R916), DC -/
  | callCA16 (a : Word)
  /-- `SBC A, n8` (R521), DE -/
  | sbcAN8 (n : Byte)
  /-- `LDH (a8), A` (R417), E0 -/
  | ldhIndA8A (a : Byte)
  /-- `AND A, n8` (R612), E6 -/
  | andAN8 (n : Byte)
  /-- `ADD SP, e8` (R532), E8 -/
  | addSpE8 (e : Byte)
  /-- `LD (a16), A` (R415), EA -/
  | ldIndA16A (a : Word)
  /-- `XOR A, n8` (R615), EE -/
  | xorAN8 (n : Byte)
  /-- `LDH A, (a8)` (R416), F0 -/
  | ldhAIndA8 (a : Byte)
  /-- `OR A, n8` (R618), F6 -/
  | orAN8 (n : Byte)
  /-- `LD HL, SP+e8` (R423), F8 -/
  | ldHlSpE8 (e : Byte)
  /-- `LD A, (a16)` (R414), FA -/
  | ldAIndA16 (a : Word)
  /-- `CP A, n8` (R524), FE -/
  | cpAN8 (n : Byte)
  /-- `NOP` (R1110), 00 -/
  | nop
  /-- `LD (BC), A` (R408), 02 -/
  | ldIndBcA
  /-- `INC BC` (R529), 03 -/
  | incBc
  /-- `INC B` (R525), 04 -/
  | incB
  /-- `DEC B` (R527), 05 -/
  | decB
  /-- `RLCA` (R710), 07 -/
  | rlca
  /-- `ADD HL, BC` (R531), 09 -/
  | addHlBc
  /-- `LD A, (BC)` (R406), 0A -/
  | ldAIndBc
  /-- `DEC BC` (R530), 0B -/
  | decBc
  /-- `INC C` (R525), 0C -/
  | incC
  /-- `DEC C` (R527), 0D -/
  | decC
  /-- `RRCA` (R711), 0F -/
  | rrca
  /-- `LD (DE), A` (R409), 12 -/
  | ldIndDeA
  /-- `INC DE` (R529), 13 -/
  | incDe
  /-- `INC D` (R525), 14 -/
  | incD
  /-- `DEC D` (R527), 15 -/
  | decD
  /-- `RLA` (R712), 17 -/
  | rla
  /-- `ADD HL, DE` (R531), 19 -/
  | addHlDe
  /-- `LD A, (DE)` (R407), 1A -/
  | ldAIndDe
  /-- `DEC DE` (R530), 1B -/
  | decDe
  /-- `INC E` (R525), 1C -/
  | incE
  /-- `DEC E` (R527), 1D -/
  | decE
  /-- `RRA` (R713), 1F -/
  | rra
  /-- `LD (HL+), A` (R412), 22 -/
  | ldIndHlIncA
  /-- `INC HL` (R529), 23 -/
  | incHl
  /-- `INC H` (R525), 24 -/
  | incH
  /-- `DEC H` (R527), 25 -/
  | decH
  /-- `DAA` (R533), 27 -/
  | daa
  /-- `ADD HL, HL` (R531), 29 -/
  | addHlHl
  /-- `LD A, (HL+)` (R410), 2A -/
  | ldAIndHlInc
  /-- `DEC HL` (R530), 2B -/
  | decHl
  /-- `INC L` (R525), 2C -/
  | incL
  /-- `DEC L` (R527), 2D -/
  | decL
  /-- `CPL` (R619), 2F -/
  | cpl
  /-- `LD (HL-), A` (R413), 32 -/
  | ldIndHlDecA
  /-- `INC SP` (R529), 33 -/
  | incSp
  /-- `INC (HL)` (R526), 34 -/
  | incIndHl
  /-- `DEC (HL)` (R528), 35 -/
  | decIndHl
  /-- `SCF` (R1115), 37 -/
  | scf
  /-- `ADD HL, SP` (R531), 39 -/
  | addHlSp
  /-- `LD A, (HL-)` (R411), 3A -/
  | ldAIndHlDec
  /-- `DEC SP` (R530), 3B -/
  | decSp
  /-- `INC A` (R525), 3C -/
  | incA
  /-- `DEC A` (R527), 3D -/
  | decA
  /-- `CCF` (R1116), 3F -/
  | ccf
  /-- `LD B, B` (R401), 40 -/
  | ldBB
  /-- `LD B, C` (R401), 41 -/
  | ldBC
  /-- `LD B, D` (R401), 42 -/
  | ldBD
  /-- `LD B, E` (R401), 43 -/
  | ldBE
  /-- `LD B, H` (R401), 44 -/
  | ldBH
  /-- `LD B, L` (R401), 45 -/
  | ldBL
  /-- `LD B, (HL)` (R402), 46 -/
  | ldBIndHl
  /-- `LD B, A` (R401), 47 -/
  | ldBA
  /-- `LD C, B` (R401), 48 -/
  | ldCB
  /-- `LD C, C` (R401), 49 -/
  | ldCC
  /-- `LD C, D` (R401), 4A -/
  | ldCD
  /-- `LD C, E` (R401), 4B -/
  | ldCE
  /-- `LD C, H` (R401), 4C -/
  | ldCH
  /-- `LD C, L` (R401), 4D -/
  | ldCL
  /-- `LD C, (HL)` (R402), 4E -/
  | ldCIndHl
  /-- `LD C, A` (R401), 4F -/
  | ldCA
  /-- `LD D, B` (R401), 50 -/
  | ldDB
  /-- `LD D, C` (R401), 51 -/
  | ldDC
  /-- `LD D, D` (R401), 52 -/
  | ldDD
  /-- `LD D, E` (R401), 53 -/
  | ldDE
  /-- `LD D, H` (R401), 54 -/
  | ldDH
  /-- `LD D, L` (R401), 55 -/
  | ldDL
  /-- `LD D, (HL)` (R402), 56 -/
  | ldDIndHl
  /-- `LD D, A` (R401), 57 -/
  | ldDA
  /-- `LD E, B` (R401), 58 -/
  | ldEB
  /-- `LD E, C` (R401), 59 -/
  | ldEC
  /-- `LD E, D` (R401), 5A -/
  | ldED
  /-- `LD E, E` (R401), 5B -/
  | ldEE
  /-- `LD E, H` (R401), 5C -/
  | ldEH
  /-- `LD E, L` (R401), 5D -/
  | ldEL
  /-- `LD E, (HL)` (R402), 5E -/
  | ldEIndHl
  /-- `LD E, A` (R401), 5F -/
  | ldEA
  /-- `LD H, B` (R401), 60 -/
  | ldHB
  /-- `LD H, C` (R401), 61 -/
  | ldHC
  /-- `LD H, D` (R401), 62 -/
  | ldHD
  /-- `LD H, E` (R401), 63 -/
  | ldHE
  /-- `LD H, H` (R401), 64 -/
  | ldHH
  /-- `LD H, L` (R401), 65 -/
  | ldHL
  /-- `LD H, (HL)` (R402), 66 -/
  | ldHIndHl
  /-- `LD H, A` (R401), 67 -/
  | ldHA
  /-- `LD L, B` (R401), 68 -/
  | ldLB
  /-- `LD L, C` (R401), 69 -/
  | ldLC
  /-- `LD L, D` (R401), 6A -/
  | ldLD
  /-- `LD L, E` (R401), 6B -/
  | ldLE
  /-- `LD L, H` (R401), 6C -/
  | ldLH
  /-- `LD L, L` (R401), 6D -/
  | ldLL
  /-- `LD L, (HL)` (R402), 6E -/
  | ldLIndHl
  /-- `LD L, A` (R401), 6F -/
  | ldLA
  /-- `LD (HL), B` (R403), 70 -/
  | ldIndHlB
  /-- `LD (HL), C` (R403), 71 -/
  | ldIndHlC
  /-- `LD (HL), D` (R403), 72 -/
  | ldIndHlD
  /-- `LD (HL), E` (R403), 73 -/
  | ldIndHlE
  /-- `LD (HL), H` (R403), 74 -/
  | ldIndHlH
  /-- `LD (HL), L` (R403), 75 -/
  | ldIndHlL
  /-- `HALT` (R1111), 76 -/
  | halt
  /-- `LD (HL), A` (R403), 77 -/
  | ldIndHlA
  /-- `LD A, B` (R401), 78 -/
  | ldAB
  /-- `LD A, C` (R401), 79 -/
  | ldAC
  /-- `LD A, D` (R401), 7A -/
  | ldAD
  /-- `LD A, E` (R401), 7B -/
  | ldAE
  /-- `LD A, H` (R401), 7C -/
  | ldAH
  /-- `LD A, L` (R401), 7D -/
  | ldAL
  /-- `LD A, (HL)` (R402), 7E -/
  | ldAIndHl
  /-- `LD A, A` (R401), 7F -/
  | ldAA
  /-- `ADD A, B` (R510), 80 -/
  | addAB
  /-- `ADD A, C` (R510), 81 -/
  | addAC
  /-- `ADD A, D` (R510), 82 -/
  | addAD
  /-- `ADD A, E` (R510), 83 -/
  | addAE
  /-- `ADD A, H` (R510), 84 -/
  | addAH
  /-- `ADD A, L` (R510), 85 -/
  | addAL
  /-- `ADD A, (HL)` (R511), 86 -/
  | addAIndHl
  /-- `ADD A, A` (R510), 87 -/
  | addAA
  /-- `ADC A, B` (R513), 88 -/
  | adcAB
  /-- `ADC A, C` (R513), 89 -/
  | adcAC
  /-- `ADC A, D` (R513), 8A -/
  | adcAD
  /-- `ADC A, E` (R513), 8B -/
  | adcAE
  /-- `ADC A, H` (R513), 8C -/
  | adcAH
  /-- `ADC A, L` (R513), 8D -/
  | adcAL
  /-- `ADC A, (HL)` (R514), 8E -/
  | adcAIndHl
  /-- `ADC A, A` (R513), 8F -/
  | adcAA
  /-- `SUB A, B` (R516), 90 -/
  | subAB
  /-- `SUB A, C` (R516), 91 -/
  | subAC
  /-- `SUB A, D` (R516), 92 -/
  | subAD
  /-- `SUB A, E` (R516), 93 -/
  | subAE
  /-- `SUB A, H` (R516), 94 -/
  | subAH
  /-- `SUB A, L` (R516), 95 -/
  | subAL
  /-- `SUB A, (HL)` (R517), 96 -/
  | subAIndHl
  /-- `SUB A, A` (R516), 97 -/
  | subAA
  /-- `SBC A, B` (R519), 98 -/
  | sbcAB
  /-- `SBC A, C` (R519), 99 -/
  | sbcAC
  /-- `SBC A, D` (R519), 9A -/
  | sbcAD
  /-- `SBC A, E` (R519), 9B -/
  | sbcAE
  /-- `SBC A, H` (R519), 9C -/
  | sbcAH
  /-- `SBC A, L` (R519), 9D -/
  | sbcAL
  /-- `SBC A, (HL)` (R520), 9E -/
  | sbcAIndHl
  /-- `SBC A, A` (R519), 9F -/
  | sbcAA
  /-- `AND A, B` (R610), A0 -/
  | andAB
  /-- `AND A, C` (R610), A1 -/
  | andAC
  /-- `AND A, D` (R610), A2 -/
  | andAD
  /-- `AND A, E` (R610), A3 -/
  | andAE
  /-- `AND A, H` (R610), A4 -/
  | andAH
  /-- `AND A, L` (R610), A5 -/
  | andAL
  /-- `AND A, (HL)` (R611), A6 -/
  | andAIndHl
  /-- `AND A, A` (R610), A7 -/
  | andAA
  /-- `XOR A, B` (R613), A8 -/
  | xorAB
  /-- `XOR A, C` (R613), A9 -/
  | xorAC
  /-- `XOR A, D` (R613), AA -/
  | xorAD
  /-- `XOR A, E` (R613), AB -/
  | xorAE
  /-- `XOR A, H` (R613), AC -/
  | xorAH
  /-- `XOR A, L` (R613), AD -/
  | xorAL
  /-- `XOR A, (HL)` (R614), AE -/
  | xorAIndHl
  /-- `XOR A, A` (R613), AF -/
  | xorAA
  /-- `OR A, B` (R616), B0 -/
  | orAB
  /-- `OR A, C` (R616), B1 -/
  | orAC
  /-- `OR A, D` (R616), B2 -/
  | orAD
  /-- `OR A, E` (R616), B3 -/
  | orAE
  /-- `OR A, H` (R616), B4 -/
  | orAH
  /-- `OR A, L` (R616), B5 -/
  | orAL
  /-- `OR A, (HL)` (R617), B6 -/
  | orAIndHl
  /-- `OR A, A` (R616), B7 -/
  | orAA
  /-- `CP A, B` (R522), B8 -/
  | cpAB
  /-- `CP A, C` (R522), B9 -/
  | cpAC
  /-- `CP A, D` (R522), BA -/
  | cpAD
  /-- `CP A, E` (R522), BB -/
  | cpAE
  /-- `CP A, H` (R522), BC -/
  | cpAH
  /-- `CP A, L` (R522), BD -/
  | cpAL
  /-- `CP A, (HL)` (R523), BE -/
  | cpAIndHl
  /-- `CP A, A` (R522), BF -/
  | cpAA
  /-- `RET NZ` (R918), C0 -/
  | retNz
  /-- `POP BC` (R1012), C1 -/
  | popBc
  /-- `PUSH BC` (R1010), C5 -/
  | pushBc
  /-- `RST $00` (R920), C7 -/
  | rst00
  /-- `RET Z` (R918), C8 -/
  | retZ
  /-- `RET` (R917), C9 -/
  | ret
  /-- `RST $08` (R920), CF -/
  | rst08
  /-- `RET NC` (R918), D0 -/
  | retNc
  /-- `POP DE` (R1012), D1 -/
  | popDe
  /-- `ILLEGAL_D3` (R1118), D3 -/
  | illegalD3
  /-- `PUSH DE` (R1010), D5 -/
  | pushDe
  /-- `RST $10` (R920), D7 -/
  | rst10
  /-- `RET C` (R918), D8 -/
  | retC
  /-- `RETI` (R919), D9 -/
  | reti
  /-- `ILLEGAL_DB` (R1118), DB -/
  | illegalDB
  /-- `ILLEGAL_DD` (R1118), DD -/
  | illegalDD
  /-- `RST $18` (R920), DF -/
  | rst18
  /-- `POP HL` (R1012), E1 -/
  | popHl
  /-- `LDH (C), A` (R419), E2 -/
  | ldhIndCA
  /-- `ILLEGAL_E3` (R1118), E3 -/
  | illegalE3
  /-- `ILLEGAL_E4` (R1118), E4 -/
  | illegalE4
  /-- `PUSH HL` (R1010), E5 -/
  | pushHl
  /-- `RST $20` (R920), E7 -/
  | rst20
  /-- `JP HL` (R912), E9 -/
  | jpHl
  /-- `ILLEGAL_EB` (R1118), EB -/
  | illegalEB
  /-- `ILLEGAL_EC` (R1118), EC -/
  | illegalEC
  /-- `ILLEGAL_ED` (R1118), ED -/
  | illegalED
  /-- `RST $28` (R920), EF -/
  | rst28
  /-- `POP AF` (R1013), F1 -/
  | popAf
  /-- `LDH A, (C)` (R418), F2 -/
  | ldhAIndC
  /-- `DI` (R1113), F3 -/
  | di
  /-- `ILLEGAL_F4` (R1118), F4 -/
  | illegalF4
  /-- `PUSH AF` (R1011), F5 -/
  | pushAf
  /-- `RST $30` (R920), F7 -/
  | rst30
  /-- `LD SP, HL` (R422), F9 -/
  | ldSpHl
  /-- `EI` (R1114), FB -/
  | ei
  /-- `ILLEGAL_FC` (R1118), FC -/
  | illegalFC
  /-- `ILLEGAL_FD` (R1118), FD -/
  | illegalFD
  /-- `RST $38` (R920), FF -/
  | rst38
  /-- `RLC B` (R714), CB 00 -/
  | rlcB
  /-- `RLC C` (R714), CB 01 -/
  | rlcC
  /-- `RLC D` (R714), CB 02 -/
  | rlcD
  /-- `RLC E` (R714), CB 03 -/
  | rlcE
  /-- `RLC H` (R714), CB 04 -/
  | rlcH
  /-- `RLC L` (R714), CB 05 -/
  | rlcL
  /-- `RLC (HL)` (R715), CB 06 -/
  | rlcIndHl
  /-- `RLC A` (R714), CB 07 -/
  | rlcA
  /-- `RRC B` (R716), CB 08 -/
  | rrcB
  /-- `RRC C` (R716), CB 09 -/
  | rrcC
  /-- `RRC D` (R716), CB 0A -/
  | rrcD
  /-- `RRC E` (R716), CB 0B -/
  | rrcE
  /-- `RRC H` (R716), CB 0C -/
  | rrcH
  /-- `RRC L` (R716), CB 0D -/
  | rrcL
  /-- `RRC (HL)` (R717), CB 0E -/
  | rrcIndHl
  /-- `RRC A` (R716), CB 0F -/
  | rrcA
  /-- `RL B` (R718), CB 10 -/
  | rlB
  /-- `RL C` (R718), CB 11 -/
  | rlC
  /-- `RL D` (R718), CB 12 -/
  | rlD
  /-- `RL E` (R718), CB 13 -/
  | rlE
  /-- `RL H` (R718), CB 14 -/
  | rlH
  /-- `RL L` (R718), CB 15 -/
  | rlL
  /-- `RL (HL)` (R719), CB 16 -/
  | rlIndHl
  /-- `RL A` (R718), CB 17 -/
  | rlA
  /-- `RR B` (R720), CB 18 -/
  | rrB
  /-- `RR C` (R720), CB 19 -/
  | rrC
  /-- `RR D` (R720), CB 1A -/
  | rrD
  /-- `RR E` (R720), CB 1B -/
  | rrE
  /-- `RR H` (R720), CB 1C -/
  | rrH
  /-- `RR L` (R720), CB 1D -/
  | rrL
  /-- `RR (HL)` (R721), CB 1E -/
  | rrIndHl
  /-- `RR A` (R720), CB 1F -/
  | rrA
  /-- `SLA B` (R722), CB 20 -/
  | slaB
  /-- `SLA C` (R722), CB 21 -/
  | slaC
  /-- `SLA D` (R722), CB 22 -/
  | slaD
  /-- `SLA E` (R722), CB 23 -/
  | slaE
  /-- `SLA H` (R722), CB 24 -/
  | slaH
  /-- `SLA L` (R722), CB 25 -/
  | slaL
  /-- `SLA (HL)` (R723), CB 26 -/
  | slaIndHl
  /-- `SLA A` (R722), CB 27 -/
  | slaA
  /-- `SRA B` (R724), CB 28 -/
  | sraB
  /-- `SRA C` (R724), CB 29 -/
  | sraC
  /-- `SRA D` (R724), CB 2A -/
  | sraD
  /-- `SRA E` (R724), CB 2B -/
  | sraE
  /-- `SRA H` (R724), CB 2C -/
  | sraH
  /-- `SRA L` (R724), CB 2D -/
  | sraL
  /-- `SRA (HL)` (R725), CB 2E -/
  | sraIndHl
  /-- `SRA A` (R724), CB 2F -/
  | sraA
  /-- `SWAP B` (R726), CB 30 -/
  | swapB
  /-- `SWAP C` (R726), CB 31 -/
  | swapC
  /-- `SWAP D` (R726), CB 32 -/
  | swapD
  /-- `SWAP E` (R726), CB 33 -/
  | swapE
  /-- `SWAP H` (R726), CB 34 -/
  | swapH
  /-- `SWAP L` (R726), CB 35 -/
  | swapL
  /-- `SWAP (HL)` (R727), CB 36 -/
  | swapIndHl
  /-- `SWAP A` (R726), CB 37 -/
  | swapA
  /-- `SRL B` (R728), CB 38 -/
  | srlB
  /-- `SRL C` (R728), CB 39 -/
  | srlC
  /-- `SRL D` (R728), CB 3A -/
  | srlD
  /-- `SRL E` (R728), CB 3B -/
  | srlE
  /-- `SRL H` (R728), CB 3C -/
  | srlH
  /-- `SRL L` (R728), CB 3D -/
  | srlL
  /-- `SRL (HL)` (R729), CB 3E -/
  | srlIndHl
  /-- `SRL A` (R728), CB 3F -/
  | srlA
  /-- `BIT 0, B` (R810), CB 40 -/
  | bit0B
  /-- `BIT 0, C` (R810), CB 41 -/
  | bit0C
  /-- `BIT 0, D` (R810), CB 42 -/
  | bit0D
  /-- `BIT 0, E` (R810), CB 43 -/
  | bit0E
  /-- `BIT 0, H` (R810), CB 44 -/
  | bit0H
  /-- `BIT 0, L` (R810), CB 45 -/
  | bit0L
  /-- `BIT 0, (HL)` (R811), CB 46 -/
  | bit0IndHl
  /-- `BIT 0, A` (R810), CB 47 -/
  | bit0A
  /-- `BIT 1, B` (R810), CB 48 -/
  | bit1B
  /-- `BIT 1, C` (R810), CB 49 -/
  | bit1C
  /-- `BIT 1, D` (R810), CB 4A -/
  | bit1D
  /-- `BIT 1, E` (R810), CB 4B -/
  | bit1E
  /-- `BIT 1, H` (R810), CB 4C -/
  | bit1H
  /-- `BIT 1, L` (R810), CB 4D -/
  | bit1L
  /-- `BIT 1, (HL)` (R811), CB 4E -/
  | bit1IndHl
  /-- `BIT 1, A` (R810), CB 4F -/
  | bit1A
  /-- `BIT 2, B` (R810), CB 50 -/
  | bit2B
  /-- `BIT 2, C` (R810), CB 51 -/
  | bit2C
  /-- `BIT 2, D` (R810), CB 52 -/
  | bit2D
  /-- `BIT 2, E` (R810), CB 53 -/
  | bit2E
  /-- `BIT 2, H` (R810), CB 54 -/
  | bit2H
  /-- `BIT 2, L` (R810), CB 55 -/
  | bit2L
  /-- `BIT 2, (HL)` (R811), CB 56 -/
  | bit2IndHl
  /-- `BIT 2, A` (R810), CB 57 -/
  | bit2A
  /-- `BIT 3, B` (R810), CB 58 -/
  | bit3B
  /-- `BIT 3, C` (R810), CB 59 -/
  | bit3C
  /-- `BIT 3, D` (R810), CB 5A -/
  | bit3D
  /-- `BIT 3, E` (R810), CB 5B -/
  | bit3E
  /-- `BIT 3, H` (R810), CB 5C -/
  | bit3H
  /-- `BIT 3, L` (R810), CB 5D -/
  | bit3L
  /-- `BIT 3, (HL)` (R811), CB 5E -/
  | bit3IndHl
  /-- `BIT 3, A` (R810), CB 5F -/
  | bit3A
  /-- `BIT 4, B` (R810), CB 60 -/
  | bit4B
  /-- `BIT 4, C` (R810), CB 61 -/
  | bit4C
  /-- `BIT 4, D` (R810), CB 62 -/
  | bit4D
  /-- `BIT 4, E` (R810), CB 63 -/
  | bit4E
  /-- `BIT 4, H` (R810), CB 64 -/
  | bit4H
  /-- `BIT 4, L` (R810), CB 65 -/
  | bit4L
  /-- `BIT 4, (HL)` (R811), CB 66 -/
  | bit4IndHl
  /-- `BIT 4, A` (R810), CB 67 -/
  | bit4A
  /-- `BIT 5, B` (R810), CB 68 -/
  | bit5B
  /-- `BIT 5, C` (R810), CB 69 -/
  | bit5C
  /-- `BIT 5, D` (R810), CB 6A -/
  | bit5D
  /-- `BIT 5, E` (R810), CB 6B -/
  | bit5E
  /-- `BIT 5, H` (R810), CB 6C -/
  | bit5H
  /-- `BIT 5, L` (R810), CB 6D -/
  | bit5L
  /-- `BIT 5, (HL)` (R811), CB 6E -/
  | bit5IndHl
  /-- `BIT 5, A` (R810), CB 6F -/
  | bit5A
  /-- `BIT 6, B` (R810), CB 70 -/
  | bit6B
  /-- `BIT 6, C` (R810), CB 71 -/
  | bit6C
  /-- `BIT 6, D` (R810), CB 72 -/
  | bit6D
  /-- `BIT 6, E` (R810), CB 73 -/
  | bit6E
  /-- `BIT 6, H` (R810), CB 74 -/
  | bit6H
  /-- `BIT 6, L` (R810), CB 75 -/
  | bit6L
  /-- `BIT 6, (HL)` (R811), CB 76 -/
  | bit6IndHl
  /-- `BIT 6, A` (R810), CB 77 -/
  | bit6A
  /-- `BIT 7, B` (R810), CB 78 -/
  | bit7B
  /-- `BIT 7, C` (R810), CB 79 -/
  | bit7C
  /-- `BIT 7, D` (R810), CB 7A -/
  | bit7D
  /-- `BIT 7, E` (R810), CB 7B -/
  | bit7E
  /-- `BIT 7, H` (R810), CB 7C -/
  | bit7H
  /-- `BIT 7, L` (R810), CB 7D -/
  | bit7L
  /-- `BIT 7, (HL)` (R811), CB 7E -/
  | bit7IndHl
  /-- `BIT 7, A` (R810), CB 7F -/
  | bit7A
  /-- `RES 0, B` (R812), CB 80 -/
  | res0B
  /-- `RES 0, C` (R812), CB 81 -/
  | res0C
  /-- `RES 0, D` (R812), CB 82 -/
  | res0D
  /-- `RES 0, E` (R812), CB 83 -/
  | res0E
  /-- `RES 0, H` (R812), CB 84 -/
  | res0H
  /-- `RES 0, L` (R812), CB 85 -/
  | res0L
  /-- `RES 0, (HL)` (R813), CB 86 -/
  | res0IndHl
  /-- `RES 0, A` (R812), CB 87 -/
  | res0A
  /-- `RES 1, B` (R812), CB 88 -/
  | res1B
  /-- `RES 1, C` (R812), CB 89 -/
  | res1C
  /-- `RES 1, D` (R812), CB 8A -/
  | res1D
  /-- `RES 1, E` (R812), CB 8B -/
  | res1E
  /-- `RES 1, H` (R812), CB 8C -/
  | res1H
  /-- `RES 1, L` (R812), CB 8D -/
  | res1L
  /-- `RES 1, (HL)` (R813), CB 8E -/
  | res1IndHl
  /-- `RES 1, A` (R812), CB 8F -/
  | res1A
  /-- `RES 2, B` (R812), CB 90 -/
  | res2B
  /-- `RES 2, C` (R812), CB 91 -/
  | res2C
  /-- `RES 2, D` (R812), CB 92 -/
  | res2D
  /-- `RES 2, E` (R812), CB 93 -/
  | res2E
  /-- `RES 2, H` (R812), CB 94 -/
  | res2H
  /-- `RES 2, L` (R812), CB 95 -/
  | res2L
  /-- `RES 2, (HL)` (R813), CB 96 -/
  | res2IndHl
  /-- `RES 2, A` (R812), CB 97 -/
  | res2A
  /-- `RES 3, B` (R812), CB 98 -/
  | res3B
  /-- `RES 3, C` (R812), CB 99 -/
  | res3C
  /-- `RES 3, D` (R812), CB 9A -/
  | res3D
  /-- `RES 3, E` (R812), CB 9B -/
  | res3E
  /-- `RES 3, H` (R812), CB 9C -/
  | res3H
  /-- `RES 3, L` (R812), CB 9D -/
  | res3L
  /-- `RES 3, (HL)` (R813), CB 9E -/
  | res3IndHl
  /-- `RES 3, A` (R812), CB 9F -/
  | res3A
  /-- `RES 4, B` (R812), CB A0 -/
  | res4B
  /-- `RES 4, C` (R812), CB A1 -/
  | res4C
  /-- `RES 4, D` (R812), CB A2 -/
  | res4D
  /-- `RES 4, E` (R812), CB A3 -/
  | res4E
  /-- `RES 4, H` (R812), CB A4 -/
  | res4H
  /-- `RES 4, L` (R812), CB A5 -/
  | res4L
  /-- `RES 4, (HL)` (R813), CB A6 -/
  | res4IndHl
  /-- `RES 4, A` (R812), CB A7 -/
  | res4A
  /-- `RES 5, B` (R812), CB A8 -/
  | res5B
  /-- `RES 5, C` (R812), CB A9 -/
  | res5C
  /-- `RES 5, D` (R812), CB AA -/
  | res5D
  /-- `RES 5, E` (R812), CB AB -/
  | res5E
  /-- `RES 5, H` (R812), CB AC -/
  | res5H
  /-- `RES 5, L` (R812), CB AD -/
  | res5L
  /-- `RES 5, (HL)` (R813), CB AE -/
  | res5IndHl
  /-- `RES 5, A` (R812), CB AF -/
  | res5A
  /-- `RES 6, B` (R812), CB B0 -/
  | res6B
  /-- `RES 6, C` (R812), CB B1 -/
  | res6C
  /-- `RES 6, D` (R812), CB B2 -/
  | res6D
  /-- `RES 6, E` (R812), CB B3 -/
  | res6E
  /-- `RES 6, H` (R812), CB B4 -/
  | res6H
  /-- `RES 6, L` (R812), CB B5 -/
  | res6L
  /-- `RES 6, (HL)` (R813), CB B6 -/
  | res6IndHl
  /-- `RES 6, A` (R812), CB B7 -/
  | res6A
  /-- `RES 7, B` (R812), CB B8 -/
  | res7B
  /-- `RES 7, C` (R812), CB B9 -/
  | res7C
  /-- `RES 7, D` (R812), CB BA -/
  | res7D
  /-- `RES 7, E` (R812), CB BB -/
  | res7E
  /-- `RES 7, H` (R812), CB BC -/
  | res7H
  /-- `RES 7, L` (R812), CB BD -/
  | res7L
  /-- `RES 7, (HL)` (R813), CB BE -/
  | res7IndHl
  /-- `RES 7, A` (R812), CB BF -/
  | res7A
  /-- `SET 0, B` (R814), CB C0 -/
  | set0B
  /-- `SET 0, C` (R814), CB C1 -/
  | set0C
  /-- `SET 0, D` (R814), CB C2 -/
  | set0D
  /-- `SET 0, E` (R814), CB C3 -/
  | set0E
  /-- `SET 0, H` (R814), CB C4 -/
  | set0H
  /-- `SET 0, L` (R814), CB C5 -/
  | set0L
  /-- `SET 0, (HL)` (R815), CB C6 -/
  | set0IndHl
  /-- `SET 0, A` (R814), CB C7 -/
  | set0A
  /-- `SET 1, B` (R814), CB C8 -/
  | set1B
  /-- `SET 1, C` (R814), CB C9 -/
  | set1C
  /-- `SET 1, D` (R814), CB CA -/
  | set1D
  /-- `SET 1, E` (R814), CB CB -/
  | set1E
  /-- `SET 1, H` (R814), CB CC -/
  | set1H
  /-- `SET 1, L` (R814), CB CD -/
  | set1L
  /-- `SET 1, (HL)` (R815), CB CE -/
  | set1IndHl
  /-- `SET 1, A` (R814), CB CF -/
  | set1A
  /-- `SET 2, B` (R814), CB D0 -/
  | set2B
  /-- `SET 2, C` (R814), CB D1 -/
  | set2C
  /-- `SET 2, D` (R814), CB D2 -/
  | set2D
  /-- `SET 2, E` (R814), CB D3 -/
  | set2E
  /-- `SET 2, H` (R814), CB D4 -/
  | set2H
  /-- `SET 2, L` (R814), CB D5 -/
  | set2L
  /-- `SET 2, (HL)` (R815), CB D6 -/
  | set2IndHl
  /-- `SET 2, A` (R814), CB D7 -/
  | set2A
  /-- `SET 3, B` (R814), CB D8 -/
  | set3B
  /-- `SET 3, C` (R814), CB D9 -/
  | set3C
  /-- `SET 3, D` (R814), CB DA -/
  | set3D
  /-- `SET 3, E` (R814), CB DB -/
  | set3E
  /-- `SET 3, H` (R814), CB DC -/
  | set3H
  /-- `SET 3, L` (R814), CB DD -/
  | set3L
  /-- `SET 3, (HL)` (R815), CB DE -/
  | set3IndHl
  /-- `SET 3, A` (R814), CB DF -/
  | set3A
  /-- `SET 4, B` (R814), CB E0 -/
  | set4B
  /-- `SET 4, C` (R814), CB E1 -/
  | set4C
  /-- `SET 4, D` (R814), CB E2 -/
  | set4D
  /-- `SET 4, E` (R814), CB E3 -/
  | set4E
  /-- `SET 4, H` (R814), CB E4 -/
  | set4H
  /-- `SET 4, L` (R814), CB E5 -/
  | set4L
  /-- `SET 4, (HL)` (R815), CB E6 -/
  | set4IndHl
  /-- `SET 4, A` (R814), CB E7 -/
  | set4A
  /-- `SET 5, B` (R814), CB E8 -/
  | set5B
  /-- `SET 5, C` (R814), CB E9 -/
  | set5C
  /-- `SET 5, D` (R814), CB EA -/
  | set5D
  /-- `SET 5, E` (R814), CB EB -/
  | set5E
  /-- `SET 5, H` (R814), CB EC -/
  | set5H
  /-- `SET 5, L` (R814), CB ED -/
  | set5L
  /-- `SET 5, (HL)` (R815), CB EE -/
  | set5IndHl
  /-- `SET 5, A` (R814), CB EF -/
  | set5A
  /-- `SET 6, B` (R814), CB F0 -/
  | set6B
  /-- `SET 6, C` (R814), CB F1 -/
  | set6C
  /-- `SET 6, D` (R814), CB F2 -/
  | set6D
  /-- `SET 6, E` (R814), CB F3 -/
  | set6E
  /-- `SET 6, H` (R814), CB F4 -/
  | set6H
  /-- `SET 6, L` (R814), CB F5 -/
  | set6L
  /-- `SET 6, (HL)` (R815), CB F6 -/
  | set6IndHl
  /-- `SET 6, A` (R814), CB F7 -/
  | set6A
  /-- `SET 7, B` (R814), CB F8 -/
  | set7B
  /-- `SET 7, C` (R814), CB F9 -/
  | set7C
  /-- `SET 7, D` (R814), CB FA -/
  | set7D
  /-- `SET 7, E` (R814), CB FB -/
  | set7E
  /-- `SET 7, H` (R814), CB FC -/
  | set7H
  /-- `SET 7, L` (R814), CB FD -/
  | set7L
  /-- `SET 7, (HL)` (R815), CB FE -/
  | set7IndHl
  /-- `SET 7, A` (R814), CB FF -/
  | set7A
deriving DecidableEq, Repr

end Sys2Proof
end

