-- ==== Sys2Proof/WellFormed.lean ====
section
/-!
DEFINITION. Well-formed instructions. Operands carry their widths in their types, so one check is left: the
spelling. The words of `PREFIX CB` and a second byte are the words of a row of the CB table, which is the
instruction they stand for (spec/30_encoding.md R308, R311; spec/47_misc.md R1117).
-/

namespace Sys2Proof

/-- The one check: the instruction is not the prefix row's spelling of a CB instruction. -/
def Instr.wellFormed (i : Instr) : Bool :=
  match i with
  | .prefixCb _ => false
  | _ => true

end Sys2Proof
end

