-- ==== Sys2Proof/Decode.lean ====
section
/-!
DEFINITION. The decoder, total on any bytes and rejecting by name, and the encoder
(spec/30_encoding.md R300 to R313).
-/

namespace Sys2Proof

/-! ### The decode tables -/

/-- The format of an instruction (R300): how the bytes after the first make it. STOP's ignored byte is
read like an immediate. -/
inductive Form where
  /-- the opcode alone -/
  | op8 (i : Instr)
  /-- one byte follows -/
  | imm8 (k : Byte → Instr)
  /-- a little-endian 16-bit value follows (R302) -/
  | imm16 (k : Word → Instr)
  /-- the escape prefix: a second opcode byte follows (R308) -/
  | cb

/-- How many bytes follow the first (R300). -/
def Form.extra (f : Form) : Nat :=
  match f with
  | .op8 _ => 0
  | .imm8 _ => 1
  | .imm16 _ => 2
  | .cb => 1

/-- Row 0x of the plain opcode map (R312). -/
def plainRow0 : List Form :=
  [.op8 .nop, .imm16 .ldBcN16, .op8 .ldIndBcA, .op8 .incBc, .op8 .incB, .op8 .decB, .imm8 .ldBN8,
   .op8 .rlca, .imm16 .ldIndA16Sp, .op8 .addHlBc, .op8 .ldAIndBc, .op8 .decBc, .op8 .incC, .op8 .decC,
   .imm8 .ldCN8, .op8 .rrca]

/-- Row 1x of the plain opcode map (R312). -/
def plainRow1 : List Form :=
  [.imm8 .stop, .imm16 .ldDeN16, .op8 .ldIndDeA, .op8 .incDe, .op8 .incD, .op8 .decD, .imm8 .ldDN8,
   .op8 .rla, .imm8 .jrE8, .op8 .addHlDe, .op8 .ldAIndDe, .op8 .decDe, .op8 .incE, .op8 .decE,
   .imm8 .ldEN8, .op8 .rra]

/-- Row 2x of the plain opcode map (R312). -/
def plainRow2 : List Form :=
  [.imm8 .jrNzE8, .imm16 .ldHlN16, .op8 .ldIndHlIncA, .op8 .incHl, .op8 .incH, .op8 .decH, .imm8 .ldHN8,
   .op8 .daa, .imm8 .jrZE8, .op8 .addHlHl, .op8 .ldAIndHlInc, .op8 .decHl, .op8 .incL, .op8 .decL,
   .imm8 .ldLN8, .op8 .cpl]

/-- Row 3x of the plain opcode map (R312). -/
def plainRow3 : List Form :=
  [.imm8 .jrNcE8, .imm16 .ldSpN16, .op8 .ldIndHlDecA, .op8 .incSp, .op8 .incIndHl, .op8 .decIndHl,
   .imm8 .ldIndHlN8, .op8 .scf, .imm8 .jrCE8, .op8 .addHlSp, .op8 .ldAIndHlDec, .op8 .decSp, .op8 .incA,
   .op8 .decA, .imm8 .ldAN8, .op8 .ccf]

/-- Row 4x of the plain opcode map (R312). -/
def plainRow4 : List Form :=
  [.op8 .ldBB, .op8 .ldBC, .op8 .ldBD, .op8 .ldBE, .op8 .ldBH, .op8 .ldBL, .op8 .ldBIndHl, .op8 .ldBA,
   .op8 .ldCB, .op8 .ldCC, .op8 .ldCD, .op8 .ldCE, .op8 .ldCH, .op8 .ldCL, .op8 .ldCIndHl, .op8 .ldCA]

/-- Row 5x of the plain opcode map (R312). -/
def plainRow5 : List Form :=
  [.op8 .ldDB, .op8 .ldDC, .op8 .ldDD, .op8 .ldDE, .op8 .ldDH, .op8 .ldDL, .op8 .ldDIndHl, .op8 .ldDA,
   .op8 .ldEB, .op8 .ldEC, .op8 .ldED, .op8 .ldEE, .op8 .ldEH, .op8 .ldEL, .op8 .ldEIndHl, .op8 .ldEA]

/-- Row 6x of the plain opcode map (R312). -/
def plainRow6 : List Form :=
  [.op8 .ldHB, .op8 .ldHC, .op8 .ldHD, .op8 .ldHE, .op8 .ldHH, .op8 .ldHL, .op8 .ldHIndHl, .op8 .ldHA,
   .op8 .ldLB, .op8 .ldLC, .op8 .ldLD, .op8 .ldLE, .op8 .ldLH, .op8 .ldLL, .op8 .ldLIndHl, .op8 .ldLA]

/-- Row 7x of the plain opcode map (R312). -/
def plainRow7 : List Form :=
  [.op8 .ldIndHlB, .op8 .ldIndHlC, .op8 .ldIndHlD, .op8 .ldIndHlE, .op8 .ldIndHlH, .op8 .ldIndHlL,
   .op8 .halt, .op8 .ldIndHlA, .op8 .ldAB, .op8 .ldAC, .op8 .ldAD, .op8 .ldAE, .op8 .ldAH, .op8 .ldAL,
   .op8 .ldAIndHl, .op8 .ldAA]

/-- Row 8x of the plain opcode map (R312). -/
def plainRow8 : List Form :=
  [.op8 .addAB, .op8 .addAC, .op8 .addAD, .op8 .addAE, .op8 .addAH, .op8 .addAL, .op8 .addAIndHl,
   .op8 .addAA, .op8 .adcAB, .op8 .adcAC, .op8 .adcAD, .op8 .adcAE, .op8 .adcAH, .op8 .adcAL,
   .op8 .adcAIndHl, .op8 .adcAA]

/-- Row 9x of the plain opcode map (R312). -/
def plainRow9 : List Form :=
  [.op8 .subAB, .op8 .subAC, .op8 .subAD, .op8 .subAE, .op8 .subAH, .op8 .subAL, .op8 .subAIndHl,
   .op8 .subAA, .op8 .sbcAB, .op8 .sbcAC, .op8 .sbcAD, .op8 .sbcAE, .op8 .sbcAH, .op8 .sbcAL,
   .op8 .sbcAIndHl, .op8 .sbcAA]

/-- Row Ax of the plain opcode map (R312). -/
def plainRowA : List Form :=
  [.op8 .andAB, .op8 .andAC, .op8 .andAD, .op8 .andAE, .op8 .andAH, .op8 .andAL, .op8 .andAIndHl,
   .op8 .andAA, .op8 .xorAB, .op8 .xorAC, .op8 .xorAD, .op8 .xorAE, .op8 .xorAH, .op8 .xorAL,
   .op8 .xorAIndHl, .op8 .xorAA]

/-- Row Bx of the plain opcode map (R312). -/
def plainRowB : List Form :=
  [.op8 .orAB, .op8 .orAC, .op8 .orAD, .op8 .orAE, .op8 .orAH, .op8 .orAL, .op8 .orAIndHl, .op8 .orAA,
   .op8 .cpAB, .op8 .cpAC, .op8 .cpAD, .op8 .cpAE, .op8 .cpAH, .op8 .cpAL, .op8 .cpAIndHl, .op8 .cpAA]

/-- Row Cx of the plain opcode map (R312). -/
def plainRowC : List Form :=
  [.op8 .retNz, .op8 .popBc, .imm16 .jpNzA16, .imm16 .jpA16, .imm16 .callNzA16, .op8 .pushBc,
   .imm8 .addAN8, .op8 .rst00, .op8 .retZ, .op8 .ret, .imm16 .jpZA16, .cb, .imm16 .callZA16,
   .imm16 .callA16, .imm8 .adcAN8, .op8 .rst08]

/-- Row Dx of the plain opcode map (R312). -/
def plainRowD : List Form :=
  [.op8 .retNc, .op8 .popDe, .imm16 .jpNcA16, .op8 .illegalD3, .imm16 .callNcA16, .op8 .pushDe,
   .imm8 .subAN8, .op8 .rst10, .op8 .retC, .op8 .reti, .imm16 .jpCA16, .op8 .illegalDB,
   .imm16 .callCA16, .op8 .illegalDD, .imm8 .sbcAN8, .op8 .rst18]

/-- Row Ex of the plain opcode map (R312). -/
def plainRowE : List Form :=
  [.imm8 .ldhIndA8A, .op8 .popHl, .op8 .ldhIndCA, .op8 .illegalE3, .op8 .illegalE4, .op8 .pushHl,
   .imm8 .andAN8, .op8 .rst20, .imm8 .addSpE8, .op8 .jpHl, .imm16 .ldIndA16A, .op8 .illegalEB,
   .op8 .illegalEC, .op8 .illegalED, .imm8 .xorAN8, .op8 .rst28]

/-- Row Fx of the plain opcode map (R312). -/
def plainRowF : List Form :=
  [.imm8 .ldhAIndA8, .op8 .popAf, .op8 .ldhAIndC, .op8 .di, .op8 .illegalF4, .op8 .pushAf, .imm8 .orAN8,
   .op8 .rst30, .imm8 .ldHlSpE8, .op8 .ldSpHl, .imm16 .ldAIndA16, .op8 .ei, .op8 .illegalFC,
   .op8 .illegalFD, .imm8 .cpAN8, .op8 .rst38]

/-- The plain opcode map (R312): row by high nibble, column by low nibble. -/
def plainMap : List (List Form) :=
  [plainRow0, plainRow1, plainRow2, plainRow3, plainRow4, plainRow5, plainRow6, plainRow7] ++
  [plainRow8, plainRow9, plainRowA, plainRowB, plainRowC, plainRowD, plainRowE, plainRowF]

/-- Row 0x of the CB-prefixed map (R313). -/
def cbRow0 : List Instr :=
  [.rlcB, .rlcC, .rlcD, .rlcE, .rlcH, .rlcL, .rlcIndHl, .rlcA, .rrcB, .rrcC, .rrcD, .rrcE, .rrcH, .rrcL,
   .rrcIndHl, .rrcA]

/-- Row 1x of the CB-prefixed map (R313). -/
def cbRow1 : List Instr :=
  [.rlB, .rlC, .rlD, .rlE, .rlH, .rlL, .rlIndHl, .rlA, .rrB, .rrC, .rrD, .rrE, .rrH, .rrL, .rrIndHl,
   .rrA]

/-- Row 2x of the CB-prefixed map (R313). -/
def cbRow2 : List Instr :=
  [.slaB, .slaC, .slaD, .slaE, .slaH, .slaL, .slaIndHl, .slaA, .sraB, .sraC, .sraD, .sraE, .sraH, .sraL,
   .sraIndHl, .sraA]

/-- Row 3x of the CB-prefixed map (R313). -/
def cbRow3 : List Instr :=
  [.swapB, .swapC, .swapD, .swapE, .swapH, .swapL, .swapIndHl, .swapA, .srlB, .srlC, .srlD, .srlE,
   .srlH, .srlL, .srlIndHl, .srlA]

/-- Row 4x of the CB-prefixed map (R313). -/
def cbRow4 : List Instr :=
  [.bit0B, .bit0C, .bit0D, .bit0E, .bit0H, .bit0L, .bit0IndHl, .bit0A, .bit1B, .bit1C, .bit1D, .bit1E,
   .bit1H, .bit1L, .bit1IndHl, .bit1A]

/-- Row 5x of the CB-prefixed map (R313). -/
def cbRow5 : List Instr :=
  [.bit2B, .bit2C, .bit2D, .bit2E, .bit2H, .bit2L, .bit2IndHl, .bit2A, .bit3B, .bit3C, .bit3D, .bit3E,
   .bit3H, .bit3L, .bit3IndHl, .bit3A]

/-- Row 6x of the CB-prefixed map (R313). -/
def cbRow6 : List Instr :=
  [.bit4B, .bit4C, .bit4D, .bit4E, .bit4H, .bit4L, .bit4IndHl, .bit4A, .bit5B, .bit5C, .bit5D, .bit5E,
   .bit5H, .bit5L, .bit5IndHl, .bit5A]

/-- Row 7x of the CB-prefixed map (R313). -/
def cbRow7 : List Instr :=
  [.bit6B, .bit6C, .bit6D, .bit6E, .bit6H, .bit6L, .bit6IndHl, .bit6A, .bit7B, .bit7C, .bit7D, .bit7E,
   .bit7H, .bit7L, .bit7IndHl, .bit7A]

/-- Row 8x of the CB-prefixed map (R313). -/
def cbRow8 : List Instr :=
  [.res0B, .res0C, .res0D, .res0E, .res0H, .res0L, .res0IndHl, .res0A, .res1B, .res1C, .res1D, .res1E,
   .res1H, .res1L, .res1IndHl, .res1A]

/-- Row 9x of the CB-prefixed map (R313). -/
def cbRow9 : List Instr :=
  [.res2B, .res2C, .res2D, .res2E, .res2H, .res2L, .res2IndHl, .res2A, .res3B, .res3C, .res3D, .res3E,
   .res3H, .res3L, .res3IndHl, .res3A]

/-- Row Ax of the CB-prefixed map (R313). -/
def cbRowA : List Instr :=
  [.res4B, .res4C, .res4D, .res4E, .res4H, .res4L, .res4IndHl, .res4A, .res5B, .res5C, .res5D, .res5E,
   .res5H, .res5L, .res5IndHl, .res5A]

/-- Row Bx of the CB-prefixed map (R313). -/
def cbRowB : List Instr :=
  [.res6B, .res6C, .res6D, .res6E, .res6H, .res6L, .res6IndHl, .res6A, .res7B, .res7C, .res7D, .res7E,
   .res7H, .res7L, .res7IndHl, .res7A]

/-- Row Cx of the CB-prefixed map (R313). -/
def cbRowC : List Instr :=
  [.set0B, .set0C, .set0D, .set0E, .set0H, .set0L, .set0IndHl, .set0A, .set1B, .set1C, .set1D, .set1E,
   .set1H, .set1L, .set1IndHl, .set1A]

/-- Row Dx of the CB-prefixed map (R313). -/
def cbRowD : List Instr :=
  [.set2B, .set2C, .set2D, .set2E, .set2H, .set2L, .set2IndHl, .set2A, .set3B, .set3C, .set3D, .set3E,
   .set3H, .set3L, .set3IndHl, .set3A]

/-- Row Ex of the CB-prefixed map (R313). -/
def cbRowE : List Instr :=
  [.set4B, .set4C, .set4D, .set4E, .set4H, .set4L, .set4IndHl, .set4A, .set5B, .set5C, .set5D, .set5E,
   .set5H, .set5L, .set5IndHl, .set5A]

/-- Row Fx of the CB-prefixed map (R313). -/
def cbRowF : List Instr :=
  [.set6B, .set6C, .set6D, .set6E, .set6H, .set6L, .set6IndHl, .set6A, .set7B, .set7C, .set7D, .set7E,
   .set7H, .set7L, .set7IndHl, .set7A]

/-- The CB-prefixed map (R313), by the second byte. -/
def cbMap : List (List Instr) :=
  [cbRow0, cbRow1, cbRow2, cbRow3, cbRow4, cbRow5, cbRow6, cbRow7] ++
  [cbRow8, cbRow9, cbRowA, cbRowB, cbRowC, cbRowD, cbRowE, cbRowF]

/-- The high nibble of an opcode byte. -/
def hiNibble (op : Byte) : Nat := op.toNat / 16

/-- The low nibble of an opcode byte. -/
def loNibble (op : Byte) : Nat := op.toNat % 16

/-- The format and instruction of a first byte (R310, R312). The map has an entry for every byte
(Laws/Decode.lean), so its default is never used. -/
def formOf (op : Byte) : Form := (plainMap.getD (hiNibble op) []).getD (loNibble op) (.op8 .nop)

/-- The instruction of a second byte after 0xCB (R308, R313); all 256 are defined. -/
def cbOf (op2 : Byte) : Instr := (cbMap.getD (hiNibble op2) []).getD (loNibble op2) .nop

/-- The length in bytes of the instruction that begins with `op`: "a function of the first byte alone"
(R300). -/
def lengthOf (op : Byte) : Nat := 1 + (formOf op).extra

/-! ### The decoder -/

/-- Why a list of bytes is no instruction. Every first byte begins one (R309: the undefined opcodes are
instructions that fault), so bytes can only be missing. -/
inductive DecodeError where
  /-- there is no byte -/
  | noByte
  /-- the instruction that begins with `op` needs more bytes -/
  | truncated (op : Byte)
deriving DecidableEq, Repr

/-- The instruction a list of bytes begins with, and the bytes after it (R310, R311). -/
def decode (bytes : List Byte) : Except DecodeError (Instr × List Byte) :=
  match bytes with
  | [] => .error .noByte
  | op :: rest =>
    match formOf op, rest with
    | .op8 i, rest => .ok (i, rest)
    | .imm8 k, n :: rest => .ok (k n, rest)
    | .imm8 _, [] => .error (.truncated op)
    | .imm16 k, lo :: hi :: rest => .ok (k (wordOf hi lo), rest)
    | .imm16 _, _ => .error (.truncated op)
    | .cb, op2 :: rest => .ok (cbOf op2, rest)
    | .cb, [] => .error (.truncated op)

/-! ### The encoder -/

/-- The bytes of an instruction, from the encoding of its row (spec/opcode_table.json). -/
def encode (i : Instr) : List Byte :=
  match i with
  | .nop => [0x00]
  | .ldBcN16 n => [0x01, loByte n, hiByte n]
  | .ldIndBcA => [0x02]
  | .incBc => [0x03]
  | .incB => [0x04]
  | .decB => [0x05]
  | .ldBN8 n => [0x06, n]
  | .rlca => [0x07]
  | .ldIndA16Sp a => [0x08, loByte a, hiByte a]
  | .addHlBc => [0x09]
  | .ldAIndBc => [0x0A]
  | .decBc => [0x0B]
  | .incC => [0x0C]
  | .decC => [0x0D]
  | .ldCN8 n => [0x0E, n]
  | .rrca => [0x0F]
  | .stop ignored => [0x10, ignored]
  | .ldDeN16 n => [0x11, loByte n, hiByte n]
  | .ldIndDeA => [0x12]
  | .incDe => [0x13]
  | .incD => [0x14]
  | .decD => [0x15]
  | .ldDN8 n => [0x16, n]
  | .rla => [0x17]
  | .jrE8 e => [0x18, e]
  | .addHlDe => [0x19]
  | .ldAIndDe => [0x1A]
  | .decDe => [0x1B]
  | .incE => [0x1C]
  | .decE => [0x1D]
  | .ldEN8 n => [0x1E, n]
  | .rra => [0x1F]
  | .jrNzE8 e => [0x20, e]
  | .ldHlN16 n => [0x21, loByte n, hiByte n]
  | .ldIndHlIncA => [0x22]
  | .incHl => [0x23]
  | .incH => [0x24]
  | .decH => [0x25]
  | .ldHN8 n => [0x26, n]
  | .daa => [0x27]
  | .jrZE8 e => [0x28, e]
  | .addHlHl => [0x29]
  | .ldAIndHlInc => [0x2A]
  | .decHl => [0x2B]
  | .incL => [0x2C]
  | .decL => [0x2D]
  | .ldLN8 n => [0x2E, n]
  | .cpl => [0x2F]
  | .jrNcE8 e => [0x30, e]
  | .ldSpN16 n => [0x31, loByte n, hiByte n]
  | .ldIndHlDecA => [0x32]
  | .incSp => [0x33]
  | .incIndHl => [0x34]
  | .decIndHl => [0x35]
  | .ldIndHlN8 n => [0x36, n]
  | .scf => [0x37]
  | .jrCE8 e => [0x38, e]
  | .addHlSp => [0x39]
  | .ldAIndHlDec => [0x3A]
  | .decSp => [0x3B]
  | .incA => [0x3C]
  | .decA => [0x3D]
  | .ldAN8 n => [0x3E, n]
  | .ccf => [0x3F]
  | .ldBB => [0x40]
  | .ldBC => [0x41]
  | .ldBD => [0x42]
  | .ldBE => [0x43]
  | .ldBH => [0x44]
  | .ldBL => [0x45]
  | .ldBIndHl => [0x46]
  | .ldBA => [0x47]
  | .ldCB => [0x48]
  | .ldCC => [0x49]
  | .ldCD => [0x4A]
  | .ldCE => [0x4B]
  | .ldCH => [0x4C]
  | .ldCL => [0x4D]
  | .ldCIndHl => [0x4E]
  | .ldCA => [0x4F]
  | .ldDB => [0x50]
  | .ldDC => [0x51]
  | .ldDD => [0x52]
  | .ldDE => [0x53]
  | .ldDH => [0x54]
  | .ldDL => [0x55]
  | .ldDIndHl => [0x56]
  | .ldDA => [0x57]
  | .ldEB => [0x58]
  | .ldEC => [0x59]
  | .ldED => [0x5A]
  | .ldEE => [0x5B]
  | .ldEH => [0x5C]
  | .ldEL => [0x5D]
  | .ldEIndHl => [0x5E]
  | .ldEA => [0x5F]
  | .ldHB => [0x60]
  | .ldHC => [0x61]
  | .ldHD => [0x62]
  | .ldHE => [0x63]
  | .ldHH => [0x64]
  | .ldHL => [0x65]
  | .ldHIndHl => [0x66]
  | .ldHA => [0x67]
  | .ldLB => [0x68]
  | .ldLC => [0x69]
  | .ldLD => [0x6A]
  | .ldLE => [0x6B]
  | .ldLH => [0x6C]
  | .ldLL => [0x6D]
  | .ldLIndHl => [0x6E]
  | .ldLA => [0x6F]
  | .ldIndHlB => [0x70]
  | .ldIndHlC => [0x71]
  | .ldIndHlD => [0x72]
  | .ldIndHlE => [0x73]
  | .ldIndHlH => [0x74]
  | .ldIndHlL => [0x75]
  | .halt => [0x76]
  | .ldIndHlA => [0x77]
  | .ldAB => [0x78]
  | .ldAC => [0x79]
  | .ldAD => [0x7A]
  | .ldAE => [0x7B]
  | .ldAH => [0x7C]
  | .ldAL => [0x7D]
  | .ldAIndHl => [0x7E]
  | .ldAA => [0x7F]
  | .addAB => [0x80]
  | .addAC => [0x81]
  | .addAD => [0x82]
  | .addAE => [0x83]
  | .addAH => [0x84]
  | .addAL => [0x85]
  | .addAIndHl => [0x86]
  | .addAA => [0x87]
  | .adcAB => [0x88]
  | .adcAC => [0x89]
  | .adcAD => [0x8A]
  | .adcAE => [0x8B]
  | .adcAH => [0x8C]
  | .adcAL => [0x8D]
  | .adcAIndHl => [0x8E]
  | .adcAA => [0x8F]
  | .subAB => [0x90]
  | .subAC => [0x91]
  | .subAD => [0x92]
  | .subAE => [0x93]
  | .subAH => [0x94]
  | .subAL => [0x95]
  | .subAIndHl => [0x96]
  | .subAA => [0x97]
  | .sbcAB => [0x98]
  | .sbcAC => [0x99]
  | .sbcAD => [0x9A]
  | .sbcAE => [0x9B]
  | .sbcAH => [0x9C]
  | .sbcAL => [0x9D]
  | .sbcAIndHl => [0x9E]
  | .sbcAA => [0x9F]
  | .andAB => [0xA0]
  | .andAC => [0xA1]
  | .andAD => [0xA2]
  | .andAE => [0xA3]
  | .andAH => [0xA4]
  | .andAL => [0xA5]
  | .andAIndHl => [0xA6]
  | .andAA => [0xA7]
  | .xorAB => [0xA8]
  | .xorAC => [0xA9]
  | .xorAD => [0xAA]
  | .xorAE => [0xAB]
  | .xorAH => [0xAC]
  | .xorAL => [0xAD]
  | .xorAIndHl => [0xAE]
  | .xorAA => [0xAF]
  | .orAB => [0xB0]
  | .orAC => [0xB1]
  | .orAD => [0xB2]
  | .orAE => [0xB3]
  | .orAH => [0xB4]
  | .orAL => [0xB5]
  | .orAIndHl => [0xB6]
  | .orAA => [0xB7]
  | .cpAB => [0xB8]
  | .cpAC => [0xB9]
  | .cpAD => [0xBA]
  | .cpAE => [0xBB]
  | .cpAH => [0xBC]
  | .cpAL => [0xBD]
  | .cpAIndHl => [0xBE]
  | .cpAA => [0xBF]
  | .retNz => [0xC0]
  | .popBc => [0xC1]
  | .jpNzA16 a => [0xC2, loByte a, hiByte a]
  | .jpA16 a => [0xC3, loByte a, hiByte a]
  | .callNzA16 a => [0xC4, loByte a, hiByte a]
  | .pushBc => [0xC5]
  | .addAN8 n => [0xC6, n]
  | .rst00 => [0xC7]
  | .retZ => [0xC8]
  | .ret => [0xC9]
  | .jpZA16 a => [0xCA, loByte a, hiByte a]
  | .prefixCb op2 => [0xCB, op2]
  | .callZA16 a => [0xCC, loByte a, hiByte a]
  | .callA16 a => [0xCD, loByte a, hiByte a]
  | .adcAN8 n => [0xCE, n]
  | .rst08 => [0xCF]
  | .retNc => [0xD0]
  | .popDe => [0xD1]
  | .jpNcA16 a => [0xD2, loByte a, hiByte a]
  | .illegalD3 => [0xD3]
  | .callNcA16 a => [0xD4, loByte a, hiByte a]
  | .pushDe => [0xD5]
  | .subAN8 n => [0xD6, n]
  | .rst10 => [0xD7]
  | .retC => [0xD8]
  | .reti => [0xD9]
  | .jpCA16 a => [0xDA, loByte a, hiByte a]
  | .illegalDB => [0xDB]
  | .callCA16 a => [0xDC, loByte a, hiByte a]
  | .illegalDD => [0xDD]
  | .sbcAN8 n => [0xDE, n]
  | .rst18 => [0xDF]
  | .ldhIndA8A a => [0xE0, a]
  | .popHl => [0xE1]
  | .ldhIndCA => [0xE2]
  | .illegalE3 => [0xE3]
  | .illegalE4 => [0xE4]
  | .pushHl => [0xE5]
  | .andAN8 n => [0xE6, n]
  | .rst20 => [0xE7]
  | .addSpE8 e => [0xE8, e]
  | .jpHl => [0xE9]
  | .ldIndA16A a => [0xEA, loByte a, hiByte a]
  | .illegalEB => [0xEB]
  | .illegalEC => [0xEC]
  | .illegalED => [0xED]
  | .xorAN8 n => [0xEE, n]
  | .rst28 => [0xEF]
  | .ldhAIndA8 a => [0xF0, a]
  | .popAf => [0xF1]
  | .ldhAIndC => [0xF2]
  | .di => [0xF3]
  | .illegalF4 => [0xF4]
  | .pushAf => [0xF5]
  | .orAN8 n => [0xF6, n]
  | .rst30 => [0xF7]
  | .ldHlSpE8 e => [0xF8, e]
  | .ldSpHl => [0xF9]
  | .ldAIndA16 a => [0xFA, loByte a, hiByte a]
  | .ei => [0xFB]
  | .illegalFC => [0xFC]
  | .illegalFD => [0xFD]
  | .cpAN8 n => [0xFE, n]
  | .rst38 => [0xFF]
  | .rlcB => [0xCB, 0x00]
  | .rlcC => [0xCB, 0x01]
  | .rlcD => [0xCB, 0x02]
  | .rlcE => [0xCB, 0x03]
  | .rlcH => [0xCB, 0x04]
  | .rlcL => [0xCB, 0x05]
  | .rlcIndHl => [0xCB, 0x06]
  | .rlcA => [0xCB, 0x07]
  | .rrcB => [0xCB, 0x08]
  | .rrcC => [0xCB, 0x09]
  | .rrcD => [0xCB, 0x0A]
  | .rrcE => [0xCB, 0x0B]
  | .rrcH => [0xCB, 0x0C]
  | .rrcL => [0xCB, 0x0D]
  | .rrcIndHl => [0xCB, 0x0E]
  | .rrcA => [0xCB, 0x0F]
  | .rlB => [0xCB, 0x10]
  | .rlC => [0xCB, 0x11]
  | .rlD => [0xCB, 0x12]
  | .rlE => [0xCB, 0x13]
  | .rlH => [0xCB, 0x14]
  | .rlL => [0xCB, 0x15]
  | .rlIndHl => [0xCB, 0x16]
  | .rlA => [0xCB, 0x17]
  | .rrB => [0xCB, 0x18]
  | .rrC => [0xCB, 0x19]
  | .rrD => [0xCB, 0x1A]
  | .rrE => [0xCB, 0x1B]
  | .rrH => [0xCB, 0x1C]
  | .rrL => [0xCB, 0x1D]
  | .rrIndHl => [0xCB, 0x1E]
  | .rrA => [0xCB, 0x1F]
  | .slaB => [0xCB, 0x20]
  | .slaC => [0xCB, 0x21]
  | .slaD => [0xCB, 0x22]
  | .slaE => [0xCB, 0x23]
  | .slaH => [0xCB, 0x24]
  | .slaL => [0xCB, 0x25]
  | .slaIndHl => [0xCB, 0x26]
  | .slaA => [0xCB, 0x27]
  | .sraB => [0xCB, 0x28]
  | .sraC => [0xCB, 0x29]
  | .sraD => [0xCB, 0x2A]
  | .sraE => [0xCB, 0x2B]
  | .sraH => [0xCB, 0x2C]
  | .sraL => [0xCB, 0x2D]
  | .sraIndHl => [0xCB, 0x2E]
  | .sraA => [0xCB, 0x2F]
  | .swapB => [0xCB, 0x30]
  | .swapC => [0xCB, 0x31]
  | .swapD => [0xCB, 0x32]
  | .swapE => [0xCB, 0x33]
  | .swapH => [0xCB, 0x34]
  | .swapL => [0xCB, 0x35]
  | .swapIndHl => [0xCB, 0x36]
  | .swapA => [0xCB, 0x37]
  | .srlB => [0xCB, 0x38]
  | .srlC => [0xCB, 0x39]
  | .srlD => [0xCB, 0x3A]
  | .srlE => [0xCB, 0x3B]
  | .srlH => [0xCB, 0x3C]
  | .srlL => [0xCB, 0x3D]
  | .srlIndHl => [0xCB, 0x3E]
  | .srlA => [0xCB, 0x3F]
  | .bit0B => [0xCB, 0x40]
  | .bit0C => [0xCB, 0x41]
  | .bit0D => [0xCB, 0x42]
  | .bit0E => [0xCB, 0x43]
  | .bit0H => [0xCB, 0x44]
  | .bit0L => [0xCB, 0x45]
  | .bit0IndHl => [0xCB, 0x46]
  | .bit0A => [0xCB, 0x47]
  | .bit1B => [0xCB, 0x48]
  | .bit1C => [0xCB, 0x49]
  | .bit1D => [0xCB, 0x4A]
  | .bit1E => [0xCB, 0x4B]
  | .bit1H => [0xCB, 0x4C]
  | .bit1L => [0xCB, 0x4D]
  | .bit1IndHl => [0xCB, 0x4E]
  | .bit1A => [0xCB, 0x4F]
  | .bit2B => [0xCB, 0x50]
  | .bit2C => [0xCB, 0x51]
  | .bit2D => [0xCB, 0x52]
  | .bit2E => [0xCB, 0x53]
  | .bit2H => [0xCB, 0x54]
  | .bit2L => [0xCB, 0x55]
  | .bit2IndHl => [0xCB, 0x56]
  | .bit2A => [0xCB, 0x57]
  | .bit3B => [0xCB, 0x58]
  | .bit3C => [0xCB, 0x59]
  | .bit3D => [0xCB, 0x5A]
  | .bit3E => [0xCB, 0x5B]
  | .bit3H => [0xCB, 0x5C]
  | .bit3L => [0xCB, 0x5D]
  | .bit3IndHl => [0xCB, 0x5E]
  | .bit3A => [0xCB, 0x5F]
  | .bit4B => [0xCB, 0x60]
  | .bit4C => [0xCB, 0x61]
  | .bit4D => [0xCB, 0x62]
  | .bit4E => [0xCB, 0x63]
  | .bit4H => [0xCB, 0x64]
  | .bit4L => [0xCB, 0x65]
  | .bit4IndHl => [0xCB, 0x66]
  | .bit4A => [0xCB, 0x67]
  | .bit5B => [0xCB, 0x68]
  | .bit5C => [0xCB, 0x69]
  | .bit5D => [0xCB, 0x6A]
  | .bit5E => [0xCB, 0x6B]
  | .bit5H => [0xCB, 0x6C]
  | .bit5L => [0xCB, 0x6D]
  | .bit5IndHl => [0xCB, 0x6E]
  | .bit5A => [0xCB, 0x6F]
  | .bit6B => [0xCB, 0x70]
  | .bit6C => [0xCB, 0x71]
  | .bit6D => [0xCB, 0x72]
  | .bit6E => [0xCB, 0x73]
  | .bit6H => [0xCB, 0x74]
  | .bit6L => [0xCB, 0x75]
  | .bit6IndHl => [0xCB, 0x76]
  | .bit6A => [0xCB, 0x77]
  | .bit7B => [0xCB, 0x78]
  | .bit7C => [0xCB, 0x79]
  | .bit7D => [0xCB, 0x7A]
  | .bit7E => [0xCB, 0x7B]
  | .bit7H => [0xCB, 0x7C]
  | .bit7L => [0xCB, 0x7D]
  | .bit7IndHl => [0xCB, 0x7E]
  | .bit7A => [0xCB, 0x7F]
  | .res0B => [0xCB, 0x80]
  | .res0C => [0xCB, 0x81]
  | .res0D => [0xCB, 0x82]
  | .res0E => [0xCB, 0x83]
  | .res0H => [0xCB, 0x84]
  | .res0L => [0xCB, 0x85]
  | .res0IndHl => [0xCB, 0x86]
  | .res0A => [0xCB, 0x87]
  | .res1B => [0xCB, 0x88]
  | .res1C => [0xCB, 0x89]
  | .res1D => [0xCB, 0x8A]
  | .res1E => [0xCB, 0x8B]
  | .res1H => [0xCB, 0x8C]
  | .res1L => [0xCB, 0x8D]
  | .res1IndHl => [0xCB, 0x8E]
  | .res1A => [0xCB, 0x8F]
  | .res2B => [0xCB, 0x90]
  | .res2C => [0xCB, 0x91]
  | .res2D => [0xCB, 0x92]
  | .res2E => [0xCB, 0x93]
  | .res2H => [0xCB, 0x94]
  | .res2L => [0xCB, 0x95]
  | .res2IndHl => [0xCB, 0x96]
  | .res2A => [0xCB, 0x97]
  | .res3B => [0xCB, 0x98]
  | .res3C => [0xCB, 0x99]
  | .res3D => [0xCB, 0x9A]
  | .res3E => [0xCB, 0x9B]
  | .res3H => [0xCB, 0x9C]
  | .res3L => [0xCB, 0x9D]
  | .res3IndHl => [0xCB, 0x9E]
  | .res3A => [0xCB, 0x9F]
  | .res4B => [0xCB, 0xA0]
  | .res4C => [0xCB, 0xA1]
  | .res4D => [0xCB, 0xA2]
  | .res4E => [0xCB, 0xA3]
  | .res4H => [0xCB, 0xA4]
  | .res4L => [0xCB, 0xA5]
  | .res4IndHl => [0xCB, 0xA6]
  | .res4A => [0xCB, 0xA7]
  | .res5B => [0xCB, 0xA8]
  | .res5C => [0xCB, 0xA9]
  | .res5D => [0xCB, 0xAA]
  | .res5E => [0xCB, 0xAB]
  | .res5H => [0xCB, 0xAC]
  | .res5L => [0xCB, 0xAD]
  | .res5IndHl => [0xCB, 0xAE]
  | .res5A => [0xCB, 0xAF]
  | .res6B => [0xCB, 0xB0]
  | .res6C => [0xCB, 0xB1]
  | .res6D => [0xCB, 0xB2]
  | .res6E => [0xCB, 0xB3]
  | .res6H => [0xCB, 0xB4]
  | .res6L => [0xCB, 0xB5]
  | .res6IndHl => [0xCB, 0xB6]
  | .res6A => [0xCB, 0xB7]
  | .res7B => [0xCB, 0xB8]
  | .res7C => [0xCB, 0xB9]
  | .res7D => [0xCB, 0xBA]
  | .res7E => [0xCB, 0xBB]
  | .res7H => [0xCB, 0xBC]
  | .res7L => [0xCB, 0xBD]
  | .res7IndHl => [0xCB, 0xBE]
  | .res7A => [0xCB, 0xBF]
  | .set0B => [0xCB, 0xC0]
  | .set0C => [0xCB, 0xC1]
  | .set0D => [0xCB, 0xC2]
  | .set0E => [0xCB, 0xC3]
  | .set0H => [0xCB, 0xC4]
  | .set0L => [0xCB, 0xC5]
  | .set0IndHl => [0xCB, 0xC6]
  | .set0A => [0xCB, 0xC7]
  | .set1B => [0xCB, 0xC8]
  | .set1C => [0xCB, 0xC9]
  | .set1D => [0xCB, 0xCA]
  | .set1E => [0xCB, 0xCB]
  | .set1H => [0xCB, 0xCC]
  | .set1L => [0xCB, 0xCD]
  | .set1IndHl => [0xCB, 0xCE]
  | .set1A => [0xCB, 0xCF]
  | .set2B => [0xCB, 0xD0]
  | .set2C => [0xCB, 0xD1]
  | .set2D => [0xCB, 0xD2]
  | .set2E => [0xCB, 0xD3]
  | .set2H => [0xCB, 0xD4]
  | .set2L => [0xCB, 0xD5]
  | .set2IndHl => [0xCB, 0xD6]
  | .set2A => [0xCB, 0xD7]
  | .set3B => [0xCB, 0xD8]
  | .set3C => [0xCB, 0xD9]
  | .set3D => [0xCB, 0xDA]
  | .set3E => [0xCB, 0xDB]
  | .set3H => [0xCB, 0xDC]
  | .set3L => [0xCB, 0xDD]
  | .set3IndHl => [0xCB, 0xDE]
  | .set3A => [0xCB, 0xDF]
  | .set4B => [0xCB, 0xE0]
  | .set4C => [0xCB, 0xE1]
  | .set4D => [0xCB, 0xE2]
  | .set4E => [0xCB, 0xE3]
  | .set4H => [0xCB, 0xE4]
  | .set4L => [0xCB, 0xE5]
  | .set4IndHl => [0xCB, 0xE6]
  | .set4A => [0xCB, 0xE7]
  | .set5B => [0xCB, 0xE8]
  | .set5C => [0xCB, 0xE9]
  | .set5D => [0xCB, 0xEA]
  | .set5E => [0xCB, 0xEB]
  | .set5H => [0xCB, 0xEC]
  | .set5L => [0xCB, 0xED]
  | .set5IndHl => [0xCB, 0xEE]
  | .set5A => [0xCB, 0xEF]
  | .set6B => [0xCB, 0xF0]
  | .set6C => [0xCB, 0xF1]
  | .set6D => [0xCB, 0xF2]
  | .set6E => [0xCB, 0xF3]
  | .set6H => [0xCB, 0xF4]
  | .set6L => [0xCB, 0xF5]
  | .set6IndHl => [0xCB, 0xF6]
  | .set6A => [0xCB, 0xF7]
  | .set7B => [0xCB, 0xF8]
  | .set7C => [0xCB, 0xF9]
  | .set7D => [0xCB, 0xFA]
  | .set7E => [0xCB, 0xFB]
  | .set7H => [0xCB, 0xFC]
  | .set7L => [0xCB, 0xFD]
  | .set7IndHl => [0xCB, 0xFE]
  | .set7A => [0xCB, 0xFF]

/-- The length in bytes of an instruction (R300). -/
def Instr.length (i : Instr) : Nat := (encode i).length

/-- The spelling the decoder gives: a prefix and its second byte are the CB row's instruction (R308,
R1117); every other instruction is its own. -/
def Instr.canonical (i : Instr) : Instr :=
  match i with
  | .prefixCb op2 => cbOf op2
  | i => i

/-! ### The host's numbering of a row's bits -/

/-- The bytes an instruction of `nbits` bits numbered as spec/opcode_table.json numbers them lays out in
memory, with zeros above. The table writes a CB row as ONE number with the prefix 0xCB in bits 15..8 (match
0xCB00, mask 0xFFFF), and every other row with its first byte in bits 7..0; a word whose bits 7..0 are the
first byte is read the second way (assumption 8). -/
def tableBytes (nbits w : Nat) : List Byte :=
  let w := w % 2 ^ nbits
  let b0 := BitVec.ofNat 8 w
  let b1 := BitVec.ofNat 8 (w / 0x100)
  let b2 := BitVec.ofNat 8 (w / 0x10000)
  if nbits = 16 ∧ b1 = 0xCB then [b1, b0, b2] else [b0, b1, b2]

/-- The instruction the decoder reads from a row's bits. -/
def decodeTableWord (nbits w : Nat) : Option Instr :=
  match decode (tableBytes nbits w) with
  | .ok (i, _) => some i
  | .error _ => none

end Sys2Proof
end

