-- ==== Sys2Proof/Config.lean ====
section
/-!
DEFINITION. The implementation parameters of spec/00_scope.md R7, and the values the model leaves free.

The parameters are PLAIN DATA that State carries and no step changes (assumption 2): a statement about
every state is then a statement about every setting of them. The value the spec calls a draw,
`DmaHighSource`, and what a device that replaces a default one does, are opaque constants: nothing can be
proved about what they are.
-/

namespace Sys2Proof

/-- `StopBehaviour` (R7; 92_eei_decisions.md D17): STOP acts as HALT, or faults. -/
inductive StopBehaviour where
  | asHalt
  | fault
deriving DecidableEq, Repr

/-- `StatIrqModel` (R7; D37): one request per enabled event, or per rising edge of the STAT line. -/
inductive StatIrqModel where
  | event
  | line
deriving DecidableEq, Repr

/-- The external devices (R7, 60_exceptions.md R1460). -/
inductive DeviceKind where
  | timer
  | joypad
  | serial
deriving DecidableEq, Repr

/-- A `TimerDevice`, `JoypadDevice` or `SerialDevice` parameter (R7; D48): the default device of R1461, R1462
or R1463, or another one. `model` says which other one; what it does is left free (assumption 1). -/
inductive DeviceChoice where
  | default
  | other (model : Nat)
deriving DecidableEq, Repr

/-- The pressed set of the 8 buttons, the host's one input (60_exceptions.md R1462, R1472). -/
structure Machine.Buttons where
  right : Bool
  left : Bool
  up : Bool
  down : Bool
  a : Bool
  b : Bool
  select : Bool
  start : Bool
deriving DecidableEq, Repr

/-- No button pressed. -/
def Machine.Buttons.none : Machine.Buttons := ⟨false, false, false, false, false, false, false, false⟩

/-- One replaced entry of `CycleTable` (R7; D9): the machine cycles of one opcode, taken and not taken.
An opcode that has no condition uses `taken`. -/
structure CycleEntry where
  /-- the opcode is the second byte of a CB instruction -/
  prefixed : Bool
  opcode : Byte
  taken : Nat
  notTaken : Nat
deriving DecidableEq, Repr

/-- The parameters of R7 that a rule of the step reads. `CartridgeImage`, `InitMem` and `ResetRegs` are
arguments of Machine/Launch.lean, and `EndPc` an argument of Safety.lean. -/
structure Params where
  /-- `HaltBug` (D16), default false -/
  haltBug : Bool
  /-- `StopBehaviour` (D17), default `AsHalt` -/
  stopBehaviour : StopBehaviour
  /-- `ExtRamPresent` (D23), default false -/
  extRamPresent : Bool
  /-- `MaxSpritesPerLine` (D43), 1..40, default 40 -/
  maxSpritesPerLine : Nat
  /-- `ObjPriorityHonoured` (D45), default false -/
  objPriorityHonoured : Bool
  /-- `StatIrqModel` (D37), default `Event` -/
  statIrqModel : StatIrqModel
  /-- the entries of `CycleTable` (D9) that differ from the table of R1510; default none -/
  cycleOverrides : List CycleEntry
  /-- `TimerDevice` (D48), default R1461 -/
  timerDevice : DeviceChoice
  /-- `JoypadDevice` (D48), default R1462 -/
  joypadDevice : DeviceChoice
  /-- `SerialDevice` (D48), default R1463 -/
  serialDevice : DeviceChoice
deriving DecidableEq, Repr

/-- The defaults of R7. -/
def Params.defaults : Params where
  haltBug := false
  stopBehaviour := .asHalt
  extRamPresent := false
  maxSpritesPerLine := 40
  objPriorityHonoured := false
  statIrqModel := .event
  cycleOverrides := []
  timerDevice := .default
  joypadDevice := .default
  serialDevice := .default

/-- The device fitted as `TimerDevice`, `JoypadDevice` or `SerialDevice`. -/
def Params.device (p : Params) (d : DeviceKind) : DeviceChoice :=
  match d with
  | .timer => p.timerDevice
  | .joypad => p.joypadDevice
  | .serial => p.serialDevice

/-- `DmaHighSource` (R1403; D47; 93_implementation_defined.md U9): the byte an OAM DMA reads from source
page 0xFE or 0xFF. "An unspecified value: a draw", one for each byte read: it is applied to State's
counter of draws. It has no body: no statement can rest on its value (assumption 5). -/
opaque Config.dmaHighSource : Nat → Byte

/-! ### A device that replaces a default one (R1460, R7; assumption 1)

Each constant takes the device's kind, its model number and its own state, coded as a number. Those that act
answer the state after the act and whether the device makes its `Request`, its only way to reach the CPU. They
have no body: a statement proved with them holds for every device. -/

/-- Its own state at session start. -/
opaque Config.deviceReset : DeviceKind → Nat → Nat

/-- `D.read(a)`: the byte, by the register's place a among those the device owns. -/
opaque Config.deviceRead : DeviceKind → Nat → Nat → Nat → Byte

/-- What a read does to the device: "whatever effect the device defines" (20_memory.md R218). -/
opaque Config.deviceReadEffect : DeviceKind → Nat → Nat → Nat → Nat × Bool

/-- `D.write(a, v)`. -/
opaque Config.deviceWrite : DeviceKind → Nat → Nat → Nat → Byte → Nat × Bool

/-- `D.tick()`, of a timer or a serial device. -/
opaque Config.deviceTick : DeviceKind → Nat → Nat → Nat × Bool

/-- The host's new pressed set reaches a joypad device (R1472). -/
opaque Config.joypadInput : Nat → Nat → Machine.Buttons → Nat × Bool

end Sys2Proof
end

