-- ==== Sys2Proof/Machine/State.lean ====
section
/-!
DEFINITION. The machine's state as plain data (spec/10_state.md R100 to R130, spec/60_exceptions.md
R1461 to R1463), the reasons a step can stop, and the state after reset (spec/70_reset_and_hazards.md
R1501). INVENTORY.md lists every field with its rule.
-/

namespace Sys2Proof.Machine

/-- The PPU modes (R1301); the numbers are STAT's two low bits. -/
inductive Mode where
  /-- H_BLANK, 0 -/
  | hBlank
  /-- V_BLANK, 1 -/
  | vBlank
  /-- OAM_SCAN, 2 -/
  | oamScan
  /-- DRAW_PIXELS, 3 -/
  | drawPixels
deriving DecidableEq, Repr

/-- The register file (R100, R109, R110). F is the flag register (R102, R103). -/
structure Regs where
  a : Byte
  f : Byte
  b : Byte
  c : Byte
  d : Byte
  e : Byte
  h : Byte
  l : Byte
  sp : Word
  pc : Word
deriving DecidableEq, Repr

/-- The record of the fault state: `IllegalOpcode(op, addr)` (R116, R1208). -/
structure IllegalOpcode where
  op : Byte
  addr : Word
deriving DecidableEq, Repr

/-- Interrupt and CPU control state (R111 to R113, R116). -/
structure Control where
  /-- IME (R111) -/
  ime : Bool
  /-- `ime_delay`, the EI countdown (R112) -/
  imeDelay : Nat
  /-- `halted` (R113, R1207) -/
  halted : Bool
  /-- `halt_skip`, a pending HALT-bug refetch (R113, R1111) -/
  haltSkip : Bool
  /-- `fault` (R116, R1208) -/
  fault : Option IllegalOpcode
  /-- `addr` of the decode procedure (30_encoding.md R311): where the opcode being executed was fetched
  from; the fault record keeps it. The model's own latch (assumption 3). -/
  opcodeAddr : Word
deriving DecidableEq, Repr

/-- The LCD register bank, 0xFF40..0xFF4B (R117 to R126). STAT is stored as its parts (R119). -/
structure Lcd where
  lcdc : Byte
  /-- STAT bits 6..3, the source enables (R119); bit 0 here is STAT bit 3 -/
  statEnable : BitVec 4
  /-- STAT bit 2 (R119), written by R1310 -/
  statCoinc : Bool
  /-- STAT bits 1..0 (R119), written by R1310 -/
  statMode : Mode
  scy : Byte
  scx : Byte
  ly : Byte
  lyc : Byte
  /-- the DMA source register (R123) -/
  dmaReg : Byte
  bgp : Byte
  obp0 : Byte
  obp1 : Byte
  wy : Byte
  wx : Byte
deriving DecidableEq, Repr

/-- An entry of the background FIFO (R1341). -/
structure BgPixel where
  colour : Shade
  shade : Shade
deriving DecidableEq, Repr

/-- An entry of the sprite FIFO (R1351). -/
structure ObjPixel where
  colour : Shade
  shade : Shade
  priority : Bool
  transparent : Bool
deriving DecidableEq, Repr

/-- A sprite selected for the line: its OAM record and its fetched mark (R127, R1321). -/
structure SpriteSlot where
  index : Fin 40
  fetched : Bool
deriving DecidableEq, Repr

/-- The PPU's internal state (R127) and the lock flags it sets and clears (R213). -/
structure Ppu where
  mode : Mode
  /-- `wait`, the dot countdown -/
  wait : Nat
  /-- `line_dot` -/
  lineDot : Nat
  scanDone : Bool
  sprites : List SpriteSlot
  bgFifo : List BgPixel
  objFifo : List ObjPixel
  /-- `x`, the output column -/
  x : Nat
  fetchX : Nat
  discard : Nat
  bgRow : Byte
  scxLatch : Byte
  winActive : Bool
  winLine : Byte
  lcdWasOn : Bool
  prevMode : Mode
  prevCoinc : Bool
  prevLine : Bool
  lcdJustOn : Bool
  oamLock : Bool
  vramLock : Bool
  palLock : Bool
deriving DecidableEq, Repr

/-- The OAM DMA state (R128). -/
structure Dma where
  active : Bool
  src : Word
  index : Nat
  sub : Nat
deriving DecidableEq, Repr

/-- The default timer device (R1461). -/
structure Timer where
  counter : Word
  tima : Byte
  tma : Byte
  /-- TAC's three stored bits -/
  tac : BitVec 3
deriving DecidableEq, Repr

/-- The default joypad device (R1462). -/
structure Joypad where
  /-- `sel`, bits 5..4 of 0xFF00 -/
  sel : BitVec 2
  pressed : Buttons
deriving DecidableEq, Repr

/-- The default serial device (R1463). -/
structure Serial where
  sb : Byte
  /-- SC bit 7 -/
  scStart : Bool
  /-- SC bit 0 -/
  scClock : Bool
  /-- `left`, machine cycles left of the running transfer -/
  left : Nat
deriving DecidableEq, Repr

/-- The own state of each device that replaces a default one, coded as a number (R1460; assumption 1). Where
the default is fitted, its number is never read. -/
structure OtherDevices where
  timer : Nat
  joypad : Nat
  serial : Nat
deriving DecidableEq, Repr

/-- All memory (R129): the cells that differ from what an unlisted address reads as, at strictly rising
addresses (Machine/Memory.lean). A cell stands under its own address, never under its echo's. -/
abbrev Memory := List Host.Cell

/-- The framebuffer (R1356): the shades that differ from what an unlisted entry reads as, at strictly
rising positions `160 × row + column`. -/
abbrev Framebuffer := List (Nat × Shade)

/-- The whole machine. -/
structure State where
  regs : Regs
  ctl : Control
  /-- IF[4:0] (R114) -/
  intFlag : BitVec 5
  /-- IE (R115) -/
  intEnable : Byte
  lcd : Lcd
  ppu : Ppu
  dma : Dma
  timer : Timer
  joypad : Joypad
  serial : Serial
  others : OtherDevices
  mem : Memory
  fb : Framebuffer
  /-- the parameters of R7; no step changes them (assumption 2) -/
  params : Params
  /-- the host's inputs still to come: the pressed set of each coming step boundary (R1472;
  assumption 4). The model's own field. -/
  hostInputs : List Buttons
  /-- how many unspecified values have been drawn (R1403; assumption 5). The model's own field. -/
  draws : Nat
deriving DecidableEq, Repr

/-- The reasons the MACHINE stops. There is none: the spec's one exception, IllegalOpcode, is a state of
the machine (R1208), and no access, no alignment and no arithmetic faults (R1209). Nothing raises one,
which is what the spec says. -/
inductive Fault where
deriving DecidableEq, Repr

/-- The reasons the MODEL stops. -/
inductive Refusal where
  /-- Raised only by an arm of exec whose instruction has no meaning yet. Safe: the model stops where
  the hardware goes on. -/
  | notModelled (mnemonic : String)
deriving DecidableEq, Repr

/-- What a meaning answers. -/
abbrev Result := Host.Outcome State Fault Refusal

/-- The register values of parameter `ResetRegs` (R7; D26): the defaults of R1501 and R1502. -/
def Regs.reset : Regs where
  a := 0x01
  f := 0xB0
  b := 0x00
  c := 0x13
  d := 0x00
  e := 0xD8
  h := 0x01
  l := 0x4D
  sp := 0xFFFE
  pc := 0x0100

/-- R1501; `opcodeAddr` is the model's own (assumption 3). -/
def Control.reset : Control where
  ime := false
  imeDelay := 0
  halted := false
  haltSkip := false
  fault := none
  opcodeAddr := 0x0100

/-- R117, R119, R1501; OBP0 and OBP1 are unspecified there (assumption 6). -/
def Lcd.reset : Lcd where
  lcdc := 0x91
  statEnable := 0
  statCoinc := true
  statMode := .oamScan
  scy := 0x00
  scx := 0x00
  ly := 0x00
  lyc := 0x00
  dmaReg := 0xFF
  bgp := 0xFC
  obp0 := 0x00
  obp1 := 0x00
  wy := 0x00
  wx := 0x00

/-- R127, R1501; every lock is open. -/
def Ppu.reset : Ppu where
  mode := .oamScan
  wait := 0
  lineDot := 0
  scanDone := false
  sprites := []
  bgFifo := []
  objFifo := []
  x := 0
  fetchX := 0
  discard := 0
  bgRow := 0
  scxLatch := 0
  winActive := false
  winLine := 0
  lcdWasOn := true
  prevMode := .oamScan
  prevCoinc := true
  prevLine := false
  lcdJustOn := false
  oamLock := false
  vramLock := false
  palLock := false

/-- R128. -/
def Dma.reset : Dma := ⟨false, 0, 0, 0⟩

/-- R1461. -/
def Timer.reset : Timer := ⟨0, 0, 0, 0⟩

/-- R1462. -/
def Joypad.reset : Joypad := ⟨0b11, Buttons.none⟩

/-- R1463. -/
def Serial.reset : Serial := ⟨0x00, false, false, 0⟩

/-- The machine right after reset (R1500, R1501), with the default parameters of R7, an empty
`CartridgeImage` and no memory written: Machine/Launch.lean gives the reset of every other launch. -/
def State.reset : State where
  regs := Regs.reset
  ctl := Control.reset
  intFlag := 0
  intEnable := 0x00
  lcd := Lcd.reset
  ppu := Ppu.reset
  dma := Dma.reset
  timer := Timer.reset
  joypad := Joypad.reset
  serial := Serial.reset
  others := ⟨0, 0, 0⟩
  mem := []
  fb := []
  params := Params.defaults
  hostInputs := []
  draws := 0

end Sys2Proof.Machine
end

