-- ==== Sys2Proof/Machine/Operands.lean ====
section
/-!
DEFINITION. The operand kinds of the instruction set (spec/10_state.md R100 to R108): registers, register
pairs, stack pairs, conditions, the 3-bit and 2-bit fields that name them, and their one reader and one
writer each.
-/

namespace Sys2Proof.Machine

/-- An 8-bit register operand (R104, without operand 6). -/
inductive Reg8 where
  | b
  | c
  | d
  | e
  | h
  | l
  | a
deriving DecidableEq, Repr

/-- The 3-bit operand `r8(i)` (R104): a register, or the byte at HL. -/
inductive Operand8 where
  | reg (r : Reg8)
  | indHl
deriving DecidableEq, Repr

/-- A 16-bit register operand `r16(i)` (R105). -/
inductive Reg16 where
  | bc
  | de
  | hl
  | sp
deriving DecidableEq, Repr

/-- A 16-bit stack register operand `r16stk(i)` (R106). -/
inductive RegStk where
  | bc
  | de
  | hl
  | af
deriving DecidableEq, Repr

/-- A register-pair memory operand `r16mem(i)` (R107). -/
inductive RegMem where
  | bc
  | de
  | hlInc
  | hlDec
deriving DecidableEq, Repr

/-- A condition `cond(i)` (R108). -/
inductive Cond where
  | nz
  | z
  | nc
  | c
deriving DecidableEq, Repr

/-! ### Field decodes -/

/-- R104: 0 B, 1 C, 2 D, 3 E, 4 H, 5 L, 6 (HL), 7 A. -/
def r8 (i : BitVec 3) : Operand8 :=
  match i with
  | 0 => .reg .b
  | 1 => .reg .c
  | 2 => .reg .d
  | 3 => .reg .e
  | 4 => .reg .h
  | 5 => .reg .l
  | 6 => .indHl
  | 7 => .reg .a

/-- R105: 0 BC, 1 DE, 2 HL, 3 SP. -/
def r16 (i : BitVec 2) : Reg16 :=
  match i with
  | 0 => .bc
  | 1 => .de
  | 2 => .hl
  | 3 => .sp

/-- R106: 0 BC, 1 DE, 2 HL, 3 AF. -/
def r16stk (i : BitVec 2) : RegStk :=
  match i with
  | 0 => .bc
  | 1 => .de
  | 2 => .hl
  | 3 => .af

/-- R107: 0 (BC), 1 (DE), 2 (HL+), 3 (HL-). -/
def r16mem (i : BitVec 2) : RegMem :=
  match i with
  | 0 => .bc
  | 1 => .de
  | 2 => .hlInc
  | 3 => .hlDec

/-- R108: 0 NZ, 1 Z, 2 NC, 3 C. -/
def cond (i : BitVec 2) : Cond :=
  match i with
  | 0 => .nz
  | 1 => .z
  | 2 => .nc
  | 3 => .c

/-! ### Registers -/

/-- `x[R]` of an 8-bit register (R11, R100). -/
def State.reg (s : State) (r : Reg8) : Byte :=
  match r with
  | .b => s.regs.b
  | .c => s.regs.c
  | .d => s.regs.d
  | .e => s.regs.e
  | .h => s.regs.h
  | .l => s.regs.l
  | .a => s.regs.a

/-- `x[R] <- v` of an 8-bit register (R11, R101). -/
def State.setReg (s : State) (r : Reg8) (v : Byte) : State :=
  match r with
  | .b => { s with regs := { s.regs with b := v } }
  | .c => { s with regs := { s.regs with c := v } }
  | .d => { s with regs := { s.regs with d := v } }
  | .e => { s with regs := { s.regs with e := v } }
  | .h => { s with regs := { s.regs with h := v } }
  | .l => { s with regs := { s.regs with l := v } }
  | .a => { s with regs := { s.regs with a := v } }

/-- `x[F] <- v`: "every write of F stores v & 0xF0" (R102). -/
def State.setF (s : State) (v : Byte) : State := { s with regs := { s.regs with f := v &&& 0xF0 } }

/-- `x[F]`: "a read of F or AF returns 0 in bits 3..0" (R102). -/
def State.f (s : State) : Byte := s.regs.f &&& 0xF0

/-- `pc <- target` (R11). -/
def State.setPc (s : State) (v : Word) : State := { s with regs := { s.regs with pc := v } }

/-- `x[SP] <- v` (R11, R110). -/
def State.setSp (s : State) (v : Word) : State := { s with regs := { s.regs with sp := v } }

/-- `x[BC]`, `x[DE]`, `x[HL]`, `x[SP]` (R101, R105). -/
def State.pair (s : State) (r : Reg16) : Word :=
  match r with
  | .bc => wordOf s.regs.b s.regs.c
  | .de => wordOf s.regs.d s.regs.e
  | .hl => wordOf s.regs.h s.regs.l
  | .sp => s.regs.sp

/-- `x[rr] <- v`: writing a pair writes both bytes (R101, R105). -/
def State.setPair (s : State) (r : Reg16) (v : Word) : State :=
  match r with
  | .bc => { s with regs := { s.regs with b := hiByte v, c := loByte v } }
  | .de => { s with regs := { s.regs with d := hiByte v, e := loByte v } }
  | .hl => { s with regs := { s.regs with h := hiByte v, l := loByte v } }
  | .sp => { s with regs := { s.regs with sp := v } }

/-- `x[HL]` (R101). -/
def State.hl (s : State) : Word := s.pair .hl

/-- The value PUSH stores (R106, R1010, R1011). -/
def State.stk (s : State) (r : RegStk) : Word :=
  match r with
  | .bc => s.pair .bc
  | .de => s.pair .de
  | .hl => s.pair .hl
  | .af => wordOf s.regs.a s.f

/-- What POP writes (R106, R1012); AF drops bits 3..0 of the low byte (R1013, R102). -/
def State.setStk (s : State) (r : RegStk) (v : Word) : State :=
  match r with
  | .bc => s.setPair .bc v
  | .de => s.setPair .de v
  | .hl => s.setPair .hl v
  | .af => (s.setReg .a (hiByte v)).setF (loByte v)

/-! ### Flags and conditions -/

/-- `Z = F[7]` (R103). -/
def State.flagZ (s : State) : Bool := s.regs.f.getLsbD 7

/-- `N = F[6]` (R103). -/
def State.flagN (s : State) : Bool := s.regs.f.getLsbD 6

/-- `H = F[5]` (R103). -/
def State.flagH (s : State) : Bool := s.regs.f.getLsbD 5

/-- `C = F[4]` (R103). -/
def State.flagC (s : State) : Bool := s.regs.f.getLsbD 4

/-- Whether a condition holds (R108). -/
def State.holds (s : State) (k : Cond) : Bool :=
  match k with
  | .nz => !s.flagZ
  | .z => s.flagZ
  | .nc => !s.flagC
  | .c => s.flagC

end Sys2Proof.Machine
end

