-- ==== Sys2Proof/Machine/Cycles.lean ====
section
/-!
DEFINITION. Machine cycles (spec/00_scope.md R18, spec/70_reset_and_hazards.md R1510, R1511): the default
table, the parameter `CycleTable` that may replace entries of it, and the cycles of an instruction.
-/

namespace Sys2Proof.Machine

/-- Machine cycles of an opcode: taken and not taken. -/
abbrev CyclePair := Nat × Nat

/-- An entry whose cost has no condition. -/
def flat (n : Nat) : CyclePair := (n, n)

/-- Row 0x of the plain table (R1510). -/
def cycleRow0 : List CyclePair :=
  [flat 1, flat 3, flat 2, flat 2, flat 1, flat 1, flat 2, flat 1, flat 5, flat 2, flat 2, flat 2,
   flat 1, flat 1, flat 2, flat 1]

/-- Row 1x of the plain table (R1510). -/
def cycleRow1 : List CyclePair :=
  [flat 1, flat 3, flat 2, flat 2, flat 1, flat 1, flat 2, flat 1, flat 3, flat 2, flat 2, flat 2,
   flat 1, flat 1, flat 2, flat 1]

/-- Row 2x of the plain table (R1510). -/
def cycleRow2 : List CyclePair :=
  [(3, 2), flat 3, flat 2, flat 2, flat 1, flat 1, flat 2, flat 1, (3, 2), flat 2, flat 2, flat 2,
   flat 1, flat 1, flat 2, flat 1]

/-- Row 3x of the plain table (R1510). -/
def cycleRow3 : List CyclePair :=
  [(3, 2), flat 3, flat 2, flat 2, flat 3, flat 3, flat 3, flat 1, (3, 2), flat 2, flat 2, flat 2,
   flat 1, flat 1, flat 2, flat 1]

/-- Row 4x of the plain table (R1510). -/
def cycleRow4 : List CyclePair :=
  [flat 1, flat 1, flat 1, flat 1, flat 1, flat 1, flat 2, flat 1, flat 1, flat 1, flat 1, flat 1,
   flat 1, flat 1, flat 2, flat 1]

/-- Row 5x of the plain table (R1510). -/
def cycleRow5 : List CyclePair :=
  [flat 1, flat 1, flat 1, flat 1, flat 1, flat 1, flat 2, flat 1, flat 1, flat 1, flat 1, flat 1,
   flat 1, flat 1, flat 2, flat 1]

/-- Row 6x of the plain table (R1510). -/
def cycleRow6 : List CyclePair :=
  [flat 1, flat 1, flat 1, flat 1, flat 1, flat 1, flat 2, flat 1, flat 1, flat 1, flat 1, flat 1,
   flat 1, flat 1, flat 2, flat 1]

/-- Row 7x of the plain table (R1510). -/
def cycleRow7 : List CyclePair :=
  [flat 2, flat 2, flat 2, flat 2, flat 2, flat 2, flat 1, flat 2, flat 1, flat 1, flat 1, flat 1,
   flat 1, flat 1, flat 2, flat 1]

/-- Row 8x of the plain table (R1510). -/
def cycleRow8 : List CyclePair :=
  [flat 1, flat 1, flat 1, flat 1, flat 1, flat 1, flat 2, flat 1, flat 1, flat 1, flat 1, flat 1,
   flat 1, flat 1, flat 2, flat 1]

/-- Row 9x of the plain table (R1510). -/
def cycleRow9 : List CyclePair :=
  [flat 1, flat 1, flat 1, flat 1, flat 1, flat 1, flat 2, flat 1, flat 1, flat 1, flat 1, flat 1,
   flat 1, flat 1, flat 2, flat 1]

/-- Row Ax of the plain table (R1510). -/
def cycleRowA : List CyclePair :=
  [flat 1, flat 1, flat 1, flat 1, flat 1, flat 1, flat 2, flat 1, flat 1, flat 1, flat 1, flat 1,
   flat 1, flat 1, flat 2, flat 1]

/-- Row Bx of the plain table (R1510). -/
def cycleRowB : List CyclePair :=
  [flat 1, flat 1, flat 1, flat 1, flat 1, flat 1, flat 2, flat 1, flat 1, flat 1, flat 1, flat 1,
   flat 1, flat 1, flat 2, flat 1]

/-- Row Cx of the plain table (R1510); the prefix and the undefined opcodes have no cycles of their own. -/
def cycleRowC : List CyclePair :=
  [(5, 2), flat 3, (4, 3), flat 4, (6, 3), flat 4, flat 2, flat 4, (5, 2), flat 4, (4, 3), flat 0,
   (6, 3), flat 6, flat 2, flat 4]

/-- Row Dx of the plain table (R1510); the prefix and the undefined opcodes have no cycles of their own. -/
def cycleRowD : List CyclePair :=
  [(5, 2), flat 3, (4, 3), flat 0, (6, 3), flat 4, flat 2, flat 4, (5, 2), flat 4, (4, 3), flat 0,
   (6, 3), flat 0, flat 2, flat 4]

/-- Row Ex of the plain table (R1510); the prefix and the undefined opcodes have no cycles of their own. -/
def cycleRowE : List CyclePair :=
  [flat 3, flat 3, flat 2, flat 0, flat 0, flat 4, flat 2, flat 4, flat 4, flat 1, flat 4, flat 0,
   flat 0, flat 0, flat 2, flat 4]

/-- Row Fx of the plain table (R1510); the prefix and the undefined opcodes have no cycles of their own. -/
def cycleRowF : List CyclePair :=
  [flat 3, flat 3, flat 2, flat 1, flat 0, flat 4, flat 2, flat 4, flat 3, flat 2, flat 4, flat 1,
   flat 0, flat 0, flat 2, flat 4]

/-- The plain table (R1510). -/
def plainCycles : List (List CyclePair) :=
  [cycleRow0, cycleRow1, cycleRow2, cycleRow3, cycleRow4, cycleRow5, cycleRow6, cycleRow7] ++
  [cycleRow8, cycleRow9, cycleRowA, cycleRowB, cycleRowC, cycleRowD, cycleRowE, cycleRowF]

/-- The rows 0x, 1x, 2x, 3x, 8x, 9x, Ax, Bx, Cx, Dx, Ex, Fx of the CB table (R1510): each count includes the prefix. -/
def cbCyclesRead4 : List CyclePair :=
  [flat 2, flat 2, flat 2, flat 2, flat 2, flat 2, flat 4, flat 2, flat 2, flat 2, flat 2, flat 2,
   flat 2, flat 2, flat 4, flat 2]

/-- The rows 4x, 5x, 6x, 7x of the CB table (R1510): each count includes the prefix. -/
def cbCyclesRead3 : List CyclePair :=
  [flat 2, flat 2, flat 2, flat 2, flat 2, flat 2, flat 3, flat 2, flat 2, flat 2, flat 2, flat 2,
   flat 2, flat 2, flat 3, flat 2]

/-- The CB table (R1510), by the second byte. -/
def cbCycles : List (List CyclePair) :=
  [cbCyclesRead4, cbCyclesRead4, cbCyclesRead4, cbCyclesRead4,
   cbCyclesRead3, cbCyclesRead3, cbCyclesRead3, cbCyclesRead3,
   cbCyclesRead4, cbCyclesRead4, cbCyclesRead4, cbCyclesRead4,
   cbCyclesRead4, cbCyclesRead4, cbCyclesRead4, cbCyclesRead4]

/-- The condition of an opcode, by the patterns of 30_encoding.md R305 and R307: JR cc is 0b001cc000, RET cc
0b110cc000, JP cc 0b110cc010, CALL cc 0b110cc100; c = op[4:3]. -/
def condOf (op : Byte) : Option Cond :=
  let c : BitVec 2 := op.extractLsb' 3 2
  let rest : Byte := op &&& 0xE7
  if rest = 0x20 ∨ rest = 0xC0 ∨ rest = 0xC2 ∨ rest = 0xC4 then some (cond c) else none

/-- The default table's entry (R1510). -/
def defaultCycles (prefixed : Bool) (op : Byte) : CyclePair :=
  ((if prefixed then cbCycles else plainCycles).getD (hiNibble op) []).getD (loNibble op) (flat 0)

/-- The entry of the parameter `CycleTable` (R7, R1510): the replaced entry, else the default's. -/
def cyclePair (p : Params) (prefixed : Bool) (op : Byte) : CyclePair :=
  match p.cycleOverrides.find? fun e => e.prefixed == prefixed && e.opcode == op with
  | some e => (e.taken, e.notTaken)
  | none => defaultCycles prefixed op

/-- `Cycles: n`, or `Cycles: t / nt` by the condition (R18), of the instruction with these bytes in a
state. -/
def State.cyclesOfBytes (s : State) (bytes : List Byte) : Nat :=
  match bytes with
  | 0xCB :: op2 :: _ => (cyclePair s.params true op2).1
  | op :: _ =>
    let p := cyclePair s.params false op
    match condOf op with
    | some k => if s.holds k then p.1 else p.2
    | none => p.1
  | [] => 0

/-- The machine cycles of an instruction, in the state in which it begins to execute. -/
def State.cyclesOf (s : State) (i : Instr) : Nat := s.cyclesOfBytes (encode i)

end Sys2Proof.Machine
end

