-- ==== Sys2Proof/Machine/Devices.lean ====
section
/-!
DEFINITION. The external devices (spec/60_exceptions.md R1460 to R1463): the default timer, joypad and serial unit,
and the own states of devices that replace them. Each function of a default device answers its next state and
whether it makes its `Request` (R1460).
-/

namespace Sys2Proof.Machine

/-! ### Timer (R1461) -/

/-- The counter bit the timer signal watches: 9, 3, 5 or 7 for TAC[1:0] = 00, 01, 10 or 11. -/
def Timer.bit (t : Timer) : Nat :=
  match t.tac.extractLsb' 0 2 with
  | 0 => 9
  | 1 => 3
  | 2 => 5
  | 3 => 7

/-- `sig = TAC[2] & counter[b]`. -/
def Timer.sig (t : Timer) : Bool := t.tac.getLsbD 2 && t.counter.getLsbD t.bit

/-- TIMA is incremented; passing 0xFF reloads TMA and requests. -/
def Timer.increment (t : Timer) : Timer × Bool :=
  if t.tima = 0xFF then ({ t with tima := t.tma }, true) else ({ t with tima := t.tima + 1 }, false)

/-- "After every tick and every write, if `sig` went from 1 to 0, TIMA is incremented": the timer `new`
that a tick or a write of `old` gave, so settled, and whether it requests. -/
def Timer.settle (old new : Timer) : Timer × Bool :=
  if old.sig && !new.sig then new.increment else (new, false)

/-- `tick()`: the counter advances by 4. -/
def Timer.tick (t : Timer) : Timer × Bool := t.settle { t with counter := t.counter + 4 }

/-- 0xFF04 (DIV) reads counter[15:8]. -/
def Timer.readDiv (t : Timer) : Byte := hiByte t.counter

/-- 0xFF07 (TAC) reads `0xF8 | TAC`. -/
def Timer.readTac (t : Timer) : Byte := 0xF8 ||| t.tac.setWidth 8

/-- A write to 0xFF04 clears the counter, whatever the value. -/
def Timer.writeDiv (t : Timer) : Timer × Bool := t.settle { t with counter := 0 }

/-- A write to 0xFF05 stores TIMA. -/
def Timer.writeTima (t : Timer) (v : Byte) : Timer × Bool := t.settle { t with tima := v }

/-- A write to 0xFF06 stores TMA. -/
def Timer.writeTma (t : Timer) (v : Byte) : Timer × Bool := t.settle { t with tma := v }

/-- A write to 0xFF07 stores bits 2..0. -/
def Timer.writeTac (t : Timer) (v : Byte) : Timer × Bool := t.settle { t with tac := v.extractLsb' 0 3 }

/-! ### Joypad (R1462) -/

/-- Four Bools as the bits 3..0 of a nibble. -/
def nibble (b3 b2 b1 b0 : Bool) : BitVec 4 :=
  BitVec.ofBool b3 ++ BitVec.ofBool b2 ++ BitVec.ofBool b1 ++ BitVec.ofBool b0

/-- {Right, Left, Up, Down} on bits 0..3, pressed = 1. -/
def Buttons.dirs (p : Buttons) : BitVec 4 := nibble p.down p.up p.left p.right

/-- {A, B, Select, Start} on bits 0..3, pressed = 1. -/
def Buttons.btns (p : Buttons) : BitVec 4 := nibble p.start p.select p.b p.a

/-- `low = ~(dirs | btns) & 0x0F`: dirs count when sel[0] = 0, btns when sel[1] = 0. -/
def Joypad.low (j : Joypad) : BitVec 4 :=
  ~~~((if j.sel.getLsbD 0 then 0 else j.pressed.dirs) ||| (if j.sel.getLsbD 1 then 0 else j.pressed.btns))

/-- A read returns `0xC0 | sel << 4 | low`. -/
def Joypad.read (j : Joypad) : Byte := 0xC0 ||| (j.sel.setWidth 8 <<< 4) ||| j.low.setWidth 8

/-- The joypad `new` that a select write or an input change of `old` gave, and whether any bit of `low`
turned from 1 to 0. -/
def Joypad.settle (old new : Joypad) : Joypad × Bool := (new, old.low &&& ~~~new.low != 0)

/-- A write stores bits 5..4 of the value. -/
def Joypad.write (j : Joypad) (v : Byte) : Joypad × Bool := j.settle { j with sel := v.extractLsb' 4 2 }

/-- A host input change (R1472). -/
def Joypad.press (j : Joypad) (p : Buttons) : Joypad × Bool := j.settle { j with pressed := p }

/-! ### Serial, with no link partner (R1463) -/

/-- 0xFF02 (SC) reads `0x7E | SC`. -/
def Serial.readSc (u : Serial) : Byte :=
  0x7E ||| (if u.scStart then 0x80 else 0) ||| (if u.scClock then 0x01 else 0)

/-- A write to 0xFF01 stores SB. -/
def Serial.writeSb (u : Serial) (v : Byte) : Serial := { u with sb := v }

/-- A write to 0xFF02 stores bits 7 and 0, and starts a transfer of 1024 machine cycles when both are
set. -/
def Serial.writeSc (u : Serial) (v : Byte) : Serial :=
  { u with
    scStart := v.getLsbD 7
    scClock := v.getLsbD 0
    left := if v.getLsbD 7 && v.getLsbD 0 then 1024 else u.left }

/-- `tick()`: a running transfer counts down; when it ends, SB is 0xFF, SC bit 7 is 0, and it requests. -/
def Serial.tick (u : Serial) : Serial × Bool :=
  if u.left = 0 then (u, false)
  else if u.left = 1 then ({ u with left := 0, sb := 0xFF, scStart := false }, true)
  else ({ u with left := u.left - 1 }, false)

/-! ### Devices that replace a default one (R1460; assumption 1) -/

/-- The own state of the device of a kind. -/
def OtherDevices.of (o : OtherDevices) (d : DeviceKind) : Nat :=
  match d with
  | .timer => o.timer
  | .joypad => o.joypad
  | .serial => o.serial

/-- The own state of the device of a kind at session start (R1500, R1460); 0 where the default is fitted. -/
def resetOther (p : Params) (d : DeviceKind) : Nat :=
  match p.device d with
  | .default => 0
  | .other m => Config.deviceReset d m

/-- The own states at session start. -/
def OtherDevices.reset (p : Params) : OtherDevices :=
  ⟨resetOther p .timer, resetOther p .joypad, resetOther p .serial⟩

/-- The own states, with the one of a kind replaced. -/
def OtherDevices.set (o : OtherDevices) (d : DeviceKind) (n : Nat) : OtherDevices :=
  match d with
  | .timer => { o with timer := n }
  | .joypad => { o with joypad := n }
  | .serial => { o with serial := n }

end Sys2Proof.Machine
end

