-- ==== Sys2Proof/Machine/Flags.lean ====
section
/-!
DEFINITION. The ALU: every flag computation of spec/41_arithmetic.md R500 to R507, 42_logic.md R600 to
R602, R619, 43_rotate_shift.md R700 to R707, 44_bit.md R800 and 47_misc.md R1115, R1116, and the flag merge of
00_scope.md R15. Arithmetic is on mathematical integers and is narrowed at the end (R9).
-/

namespace Sys2Proof.Machine

/-- `AluResult` (R15, R500): a value, the mask of the flags it changes and their new values. -/
structure AluResult (w : Nat) where
  value : BitVec w
  mask : Byte
  flags : Byte
deriving DecidableEq, Repr

/-- The four flags at their places in F (R103). -/
def flagByte (z n h c : Bool) : Byte :=
  (if z then 0x80 else 0) ||| (if n then 0x40 else 0) ||| (if h then 0x20 else 0) ||| (if c then 0x10 else 0)

/-- mask {Z, N, H, C} -/
def maskZNHC : Byte := flagByte true true true true

/-- mask {Z, N, H} -/
def maskZNH : Byte := flagByte true true true false

/-- mask {N, H, C} -/
def maskNHC : Byte := flagByte false true true true

/-- mask {Z, H, C} -/
def maskZHC : Byte := flagByte true false true true

/-- mask {N, H} -/
def maskNH : Byte := flagByte false true true false

/-- `Merge(res)` on the flag register: `((F & ~mask) | (flags & mask)) & 0xF0` (R15). -/
def mergeFlags (f mask flags : Byte) : Byte := ((f &&& ~~~mask) ||| (flags &&& mask)) &&& 0xF0

/-- `Merge(res)` (R15). -/
def State.merge {w : Nat} (s : State) (r : AluResult w) : State :=
  s.setF (mergeFlags s.regs.f r.mask r.flags)

/-! ### 8-bit arithmetic -/

/-- `Add8(a, b, cin)` (R501). -/
def add8 (a b : Byte) (cin : Bool) : AluResult 8 :=
  let sum := a.toNat + b.toNat + boolNat cin
  let value := BitVec.ofNat 8 sum
  { value
    mask := maskZNHC
    flags := flagByte (value == 0) false (decide (a.toNat % 16 + b.toNat % 16 + boolNat cin > 0x0F))
      (decide (sum > 0xFF)) }

/-- `Sub8(a, b, cin)` (R502). -/
def sub8 (a b : Byte) (cin : Bool) : AluResult 8 :=
  let diff : Int := (a.toNat : Int) - b.toNat - boolNat cin
  let value := BitVec.ofInt 8 diff
  { value
    mask := maskZNHC
    flags := flagByte (value == 0) true
      (decide (((a.toNat % 16 : Nat) : Int) - ((b.toNat % 16 : Nat) : Int) - boolNat cin < 0)) (decide (diff < 0)) }

/-- `Cp8(a, b)`: `Sub8(a, b, 0)` with value replaced by a (R502). -/
def cp8 (a b : Byte) : AluResult 8 := { sub8 a b false with value := a }

/-- `Inc8(a)` (R503). -/
def inc8 (a : Byte) : AluResult 8 :=
  let value := BitVec.ofNat 8 (a.toNat + 1)
  { value, mask := maskZNH, flags := flagByte (value == 0) false (a &&& 0x0F == 0x0F) false }

/-- `Dec8(a)` (R504). -/
def dec8 (a : Byte) : AluResult 8 :=
  let value := BitVec.ofInt 8 ((a.toNat : Int) - 1)
  { value, mask := maskZNH, flags := flagByte (value == 0) true (a &&& 0x0F == 0x00) false }

/-- `Daa(a, n, h, c)` (R507). -/
def daa (a : Byte) (n h c : Bool) : AluResult 8 :=
  let high := if n then c else c || decide (a.toNat > 0x99)
  let low := if n then h else h || decide (a.toNat % 16 > 0x09)
  let adj := (if high then 0x60 else 0) + (if low then 0x06 else 0)
  let cout := if n then c else high
  let value := if n then BitVec.ofInt 8 ((a.toNat : Int) - (adj : Nat)) else BitVec.ofNat 8 (a.toNat + adj)
  { value, mask := maskZHC, flags := flagByte (value == 0) false false cout }

/-! ### 16-bit arithmetic -/

/-- `Add16(a, b)` (R505). -/
def add16 (a b : Word) : AluResult 16 :=
  let sum := a.toNat + b.toNat
  { value := BitVec.ofNat 16 sum
    mask := maskNHC
    flags := flagByte false false (decide (a.toNat % 0x1000 + b.toNat % 0x1000 > 0x0FFF)) (decide (sum > 0xFFFF)) }

/-- `AddSpOffset(sp, e)` (R506): the value takes e sign-extended, H and C its unsigned byte. -/
def addSpOffset (sp : Word) (e : Byte) : AluResult 16 :=
  { value := BitVec.ofNat 16 (sp.toNat + (sext16 e).toNat)
    mask := maskZNHC
    flags := flagByte false false (decide (sp.toNat % 16 + e.toNat % 16 > 0x0F))
      (decide (sp.toNat % 256 + e.toNat > 0xFF)) }

/-! ### Logic -/

/-- `And8(a, b)` (R600). -/
def and8 (a b : Byte) : AluResult 8 :=
  { value := a &&& b, mask := maskZNHC, flags := flagByte (a &&& b == 0) false true false }

/-- `Xor8(a, b)` (R601). -/
def xor8 (a b : Byte) : AluResult 8 :=
  { value := a ^^^ b, mask := maskZNHC, flags := flagByte (a ^^^ b == 0) false false false }

/-- `Or8(a, b)` (R602). -/
def or8 (a b : Byte) : AluResult 8 :=
  { value := a ||| b, mask := maskZNHC, flags := flagByte (a ||| b == 0) false false false }

/-- The result of CPL (R619). -/
def cpl8 (a : Byte) : AluResult 8 := { value := ~~~a, mask := maskNH, flags := flagByte false true true false }

/-! ### Rotates and shifts -/

/-- The common form of R700 to R707: mask {Z, N, H, C}, `Z <- checkZ ? (value == 0) : 0`, N = H = 0. -/
def shiftResult (value : Byte) (carry checkZ : Bool) : AluResult 8 :=
  { value, mask := maskZNHC, flags := flagByte (checkZ && value == 0) false false carry }

/-- `Rlc` (R700). -/
def rlc (a : Byte) (checkZ : Bool) : AluResult 8 :=
  shiftResult ((a <<< 1) ||| (a >>> 7)) (a.getLsbD 7) checkZ

/-- `Rrc` (R701). -/
def rrc (a : Byte) (checkZ : Bool) : AluResult 8 :=
  shiftResult ((a >>> 1) ||| (a <<< 7)) (a.getLsbD 0) checkZ

/-- `Rl` (R702). -/
def rl (a : Byte) (cin checkZ : Bool) : AluResult 8 :=
  shiftResult ((a <<< 1) ||| boolByte cin) (a.getLsbD 7) checkZ

/-- `Rr` (R703). -/
def rr (a : Byte) (cin checkZ : Bool) : AluResult 8 :=
  shiftResult ((a >>> 1) ||| (boolByte cin <<< 7)) (a.getLsbD 0) checkZ

/-- `Sla` (R704). -/
def sla (a : Byte) (checkZ : Bool) : AluResult 8 := shiftResult (a <<< 1) (a.getLsbD 7) checkZ

/-- `Sra` (R705). -/
def sra (a : Byte) (checkZ : Bool) : AluResult 8 :=
  shiftResult ((a >>> 1) ||| (a &&& 0x80)) (a.getLsbD 0) checkZ

/-- `Swap` (R706). -/
def swap (a : Byte) (checkZ : Bool) : AluResult 8 := shiftResult ((a <<< 4) ||| (a >>> 4)) false checkZ

/-- `Srl` (R707). -/
def srl (a : Byte) (checkZ : Bool) : AluResult 8 := shiftResult (a >>> 1) (a.getLsbD 0) checkZ

/-- The eight rotate and shift operations, in the order of the CB field y (30_encoding.md R308). -/
inductive ShiftOp where
  | rlc
  | rrc
  | rl
  | rr
  | sla
  | sra
  | swap
  | srl
deriving DecidableEq, Repr

/-- The function of a rotate or shift operation (R700 to R707). -/
def shift (op : ShiftOp) (a : Byte) (cin checkZ : Bool) : AluResult 8 :=
  match op with
  | .rlc => Sys2Proof.Machine.rlc a checkZ
  | .rrc => Sys2Proof.Machine.rrc a checkZ
  | .rl => Sys2Proof.Machine.rl a cin checkZ
  | .rr => Sys2Proof.Machine.rr a cin checkZ
  | .sla => Sys2Proof.Machine.sla a checkZ
  | .sra => Sys2Proof.Machine.sra a checkZ
  | .swap => Sys2Proof.Machine.swap a checkZ
  | .srl => Sys2Proof.Machine.srl a checkZ

/-! ### The accumulator operations -/

/-- The eight operations on A, in the order of the field y (30_encoding.md R307). -/
inductive AluOp where
  | add
  | adc
  | sub
  | sbc
  | and
  | xor
  | or
  | cp
deriving DecidableEq, Repr

/-- The function of an accumulator operation: A, the operand, the carry flag (R510 to R524, R610 to
R618). -/
def alu (op : AluOp) (a v : Byte) (carry : Bool) : AluResult 8 :=
  match op with
  | .add => add8 a v false
  | .adc => add8 a v carry
  | .sub => sub8 a v false
  | .sbc => sub8 a v carry
  | .and => and8 a v
  | .xor => xor8 a v
  | .or => or8 a v
  | .cp => cp8 a v

/-! ### Bits and the carry flag -/

/-- `BitTest(b, v)`: no value, C outside the mask (R800). -/
def bitTest (b : BitVec 3) (v : Byte) : AluResult 8 :=
  { value := v, mask := maskZNH, flags := flagByte (!v.getLsbD b.toNat) false true false }

/-- `v & ~(1 << b)` (R812, R813). -/
def bitReset (b : BitVec 3) (v : Byte) : Byte := v &&& ~~~(bitMask b)

/-- `v | (1 << b)` (R814, R815). -/
def bitSet (b : BitVec 3) (v : Byte) : Byte := v ||| bitMask b

/-- The flags SCF and CCF leave: N = H = 0 and a new C (R1115, R1116). -/
def carryFlags (carry : Bool) : AluResult 8 :=
  { value := 0, mask := maskNHC, flags := flagByte false false false carry }

end Sys2Proof.Machine
end

