-- ==== Sys2Proof/Machine/Memory.lean ====
section
/-!
DEFINITION. Memory and framebuffer as sparse lists in one canonical form (spec/10_state.md R129,
spec/20_memory.md R202 to R210, spec/60_exceptions.md R1356): what an unlisted address reads as, reading,
writing, and the canonical form that every write keeps.
-/

namespace Sys2Proof.Machine

/-! ### A sparse list of keyed values -/

/-- The value at key `a`: the first entry's, else the default's. -/
def Sparse.read {α : Type} (dflt : Nat → α) : List (Nat × α) → Nat → α
  | [], a => dflt a
  | c :: m, a => if c.1 = a then c.2 else Sparse.read dflt m a

/-- Put an entry at key `a`, before the first larger key. -/
def Sparse.insert {α : Type} : List (Nat × α) → Nat → α → List (Nat × α)
  | [], a, v => [(a, v)]
  | c :: m, a, v =>
    if a < c.1 then (a, v) :: c :: m
    else if a = c.1 then (a, v) :: m
    else c :: Sparse.insert m a v

/-- Take every entry at key `a` out. -/
def Sparse.erase {α : Type} (m : List (Nat × α)) (a : Nat) : List (Nat × α) :=
  m.filter fun c => !(c.1 == a)

/-- Write `v` at key `a`; writing what an unlisted key reads as takes the entry out. -/
def Sparse.write {α : Type} [DecidableEq α] (dflt : Nat → α) (m : List (Nat × α)) (a : Nat) (v : α) :
    List (Nat × α) :=
  if v = dflt a then Sparse.erase m a else Sparse.insert m a v

/-- The canonical form: keys strictly rising, and no entry that equals the default. -/
abbrev Sparse.wf {α : Type} [DecidableEq α] (dflt : Nat → α) (m : List (Nat × α)) : Prop :=
  m.Pairwise (fun c d => c.1 < d.1) ∧ ∀ c ∈ m, c.2 ≠ dflt c.1

/-! ### Memory -/

/-- What an unlisted address reads as: ROM beyond the image reads 0xFF (R202); the RAMs and OAM hold
`InitMem`, which the spec leaves unspecified (R129), and here 0x00 (assumption 7). -/
def Memory.unlisted (a : Nat) : Byte := if a < 0x8000 then 0xFF else 0x00

/-- The addresses at which memory holds a byte of its own (R129, R201). Echo RAM, the unusable range and
the I/O page hold none; IE is a register. -/
def Memory.backed (a : Nat) : Bool :=
  a < 0xE000 || (0xFE00 ≤ a && a < 0xFEA0) || (0xFF80 ≤ a && a < 0xFFFF)

/-- The byte held at a backed address. -/
def Memory.read (m : Memory) (a : Nat) : Byte := Sparse.read Memory.unlisted m a

/-- The memory with one byte written. -/
def Memory.write (m : Memory) (a : Nat) (v : Byte) : Memory := Sparse.write Memory.unlisted m a v

/-- The canonical form of memory: rising, free of unlisted values, and at backed addresses only. -/
abbrev Memory.wf (m : Memory) : Prop :=
  Sparse.wf Memory.unlisted m ∧ ∀ c ∈ m, Memory.backed c.1 = true

/-! ### The framebuffer -/

/-- What an entry the PPU has not written reads as: unspecified in the spec (R1356), here shade 0
(assumption 7). -/
def Framebuffer.unlisted (_ : Nat) : Shade := 0

/-- The position of row `y`, column `x` (R1356). -/
def Framebuffer.pos (y x : Nat) : Nat := 160 * y + x

/-- `fb[y][x]` (R1356, R1473). -/
def Framebuffer.read (fb : Framebuffer) (y x : Nat) : Shade :=
  Sparse.read Framebuffer.unlisted fb (Framebuffer.pos y x)

/-- `fb[y][x] <- shade` (R1356). -/
def Framebuffer.write (fb : Framebuffer) (y x : Nat) (v : Shade) : Framebuffer :=
  Sparse.write Framebuffer.unlisted fb (Framebuffer.pos y x) v

/-- The canonical form of the framebuffer: rising and free of unlisted values. -/
abbrev Framebuffer.wf (fb : Framebuffer) : Prop := Sparse.wf Framebuffer.unlisted fb

end Sys2Proof.Machine
end

