-- ==== Sys2Proof/Machine/Ops.lean ====
section
/-!
DEFINITION. The named operations over memory, registers and interrupts: the bus as the CPU sees it
(spec/20_memory.md R200 to R218), interrupt requests (00_scope.md R17), the stack (R14), the instruction
stream (R13), taking an interrupt and returning from one (60_exceptions.md R1203, R1204, R1211), and the
fault state (R1208).
-/

namespace Sys2Proof.Machine

/-! ### Interrupt sources and requests -/

/-- The interrupt sources, in priority order (R1201). -/
inductive IntSource where
  | vBlank
  | lcdStat
  | timer
  | serial
  | joypad
deriving DecidableEq, Repr

/-- The index i of a source: its bit of IF and IE (R1201, R114). -/
def IntSource.index (i : IntSource) : Nat :=
  match i with
  | .vBlank => 0
  | .lcdStat => 1
  | .timer => 2
  | .serial => 3
  | .joypad => 4

/-- All sources, the first to be serviced first (R1203). -/
def IntSource.all : List IntSource := [.vBlank, .lcdStat, .timer, .serial, .joypad]

/-- The vector `0x0040 + 8 * i` (R1201, R1204). -/
def IntSource.vector (i : IntSource) : Word := BitVec.ofNat 16 (0x0040 + 8 * i.index)

/-- The bit of a source in IF: `1 << i`. -/
def IntSource.bit (i : IntSource) : BitVec 5 := (1 : BitVec 5) <<< i.index

/-- `Request(i)`: `IF <- IF | (1 << i)` (R17). -/
def State.request (s : State) (i : IntSource) : State := { s with intFlag := s.intFlag ||| i.bit }

/-- The source a device requests: 2 for the timer, 3 for serial, 4 for the joypad (R1460). -/
def IntSource.ofDevice (d : DeviceKind) : IntSource :=
  match d with
  | .timer => .timer
  | .joypad => .joypad
  | .serial => .serial

/-- `Request(i)` when a device asks for it (R1460). -/
def State.requestIf (s : State) (i : IntSource) (asked : Bool) : State := if asked then s.request i else s

/-- `IE & IF & 0x1F` (R1200, R1202). -/
def State.pending (s : State) : BitVec 5 := s.intEnable.extractLsb' 0 5 &&& s.intFlag

/-- The source of the lowest set bit of pending (R1203). -/
def State.firstPending (s : State) : Option IntSource :=
  IntSource.all.find? fun i => s.pending.getLsbD i.index

/-! ### The address map -/

/-- The I/O registers that have an owner (R209, R117). -/
inductive IoReg where
  | p1
  | sb
  | sc
  | div
  | tima
  | tma
  | tac
  | intFlag
  | lcdc
  | stat
  | scy
  | scx
  | ly
  | lyc
  | dma
  | bgp
  | obp0
  | obp1
  | wy
  | wx
deriving DecidableEq, Repr

/-- The map of 0xFF00..0xFF7F, by the low byte of the address (R209, R117). -/
def ioMap : List (Byte × IoReg) :=
  [(0x00, .p1), (0x01, .sb), (0x02, .sc), (0x04, .div), (0x05, .tima), (0x06, .tma), (0x07, .tac),
   (0x0F, .intFlag)] ++
  [(0x40, .lcdc), (0x41, .stat), (0x42, .scy), (0x43, .scx), (0x44, .ly), (0x45, .lyc), (0x46, .dma),
   (0x47, .bgp), (0x48, .obp0), (0x49, .obp1), (0x4A, .wy), (0x4B, .wx)]

/-- The external device that owns an I/O register, and the register's place among those it owns (R209,
R1460). -/
def IoReg.port (r : IoReg) : Option (DeviceKind × Nat) :=
  match r with
  | .p1 => some (.joypad, 0)
  | .sb => some (.serial, 0)
  | .sc => some (.serial, 1)
  | .div => some (.timer, 0)
  | .tima => some (.timer, 1)
  | .tma => some (.timer, 2)
  | .tac => some (.timer, 3)
  | .intFlag => none
  | .lcdc => none
  | .stat => none
  | .scy => none
  | .scx => none
  | .ly => none
  | .lyc => none
  | .dma => none
  | .bgp => none
  | .obp0 => none
  | .obp1 => none
  | .wy => none
  | .wx => none

/-- What an address reaches (R201). A memory cell carries its own address. -/
inductive Target where
  /-- cartridge ROM (R202) -/
  | rom (k : Nat)
  /-- video RAM (R203), behind its lock -/
  | vram (k : Nat)
  /-- work RAM, its echo, high RAM, and external RAM when present (R204 to R206, R210) -/
  | ram (k : Nat)
  /-- OAM (R207), behind its lock -/
  | oam (k : Nat)
  /-- an I/O register with an owner (R209) -/
  | io (r : IoReg)
  /-- the IE register (R211) -/
  | ie
  /-- nothing: the open bus (R204, R208, R209, R212) -/
  | openBus
deriving DecidableEq, Repr

/-- The bus map (R201), for external RAM present or absent (R204). -/
def busTarget (extRam : Bool) (addr : Word) : Target :=
  let a := addr.toNat
  if a < 0x8000 then .rom a
  else if a < 0xA000 then .vram a
  else if a < 0xC000 then (if extRam then .ram a else .openBus)
  else if a < 0xE000 then .ram a
  else if a < 0xFE00 then .ram (a - 0x2000)
  else if a < 0xFEA0 then .oam a
  else if a < 0xFF00 then .openBus
  else if a < 0xFF80 then
    match ioMap.lookup (loByte addr) with
    | some r => .io r
    | none => .openBus
  else if a < 0xFFFF then .ram a
  else .ie

/-- What an address reaches on this machine. -/
def State.target (s : State) (addr : Word) : Target := busTarget s.params.extRamPresent addr

/-! ### The devices fitted (R1460; assumption 1) -/

/-- A register of a device that replaces a default one: the device's kind and model, and the register's place in
it. -/
structure Port where
  kind : DeviceKind
  model : Nat
  place : Nat
deriving DecidableEq, Repr

/-- The port an I/O register is, where its owner replaces a default device. -/
def State.port (s : State) (r : IoReg) : Option Port :=
  match r.port with
  | none => none
  | some (d, a) =>
    match s.params.device d with
    | .default => none
    | .other m => some ⟨d, m, a⟩

/-- A fitted device after an act, with its request. -/
def State.setOther (s : State) (d : DeviceKind) (u : Nat × Bool) : State :=
  { s with others := s.others.set d u.1 }.requestIf (.ofDevice d) u.2

/-! ### Reading -/

/-- STAT's mode bits (R119, R1301). -/
def Mode.bits (m : Mode) : BitVec 2 :=
  match m with
  | .hBlank => 0
  | .vBlank => 1
  | .oamScan => 2
  | .drawPixels => 3

/-- STAT as the CPU reads it: `0x80 | stored[6:3] | coincidence << 2 | mode` (R119). -/
def Lcd.stat (l : Lcd) : Byte :=
  0x80 ||| (l.statEnable.setWidth 8 <<< 3) ||| (boolByte l.statCoinc <<< 2) ||| l.statMode.bits.setWidth 8

/-- IF as the CPU reads it: `0xE0 | IF[4:0]` (R114). -/
def State.readIf (s : State) : Byte := 0xE0 ||| s.intFlag.setWidth 8

/-- A CPU read of an I/O register of the block or of a default device (R209; R114, R117 to R126; R1461 to
R1463). The palettes are behind their lock (R213). -/
def State.readOwn (s : State) (r : IoReg) : Byte :=
  match r with
  | .p1 => s.joypad.read
  | .sb => s.serial.sb
  | .sc => s.serial.readSc
  | .div => s.timer.readDiv
  | .tima => s.timer.tima
  | .tma => s.timer.tma
  | .tac => s.timer.readTac
  | .intFlag => s.readIf
  | .lcdc => s.lcd.lcdc
  | .stat => s.lcd.stat
  | .scy => s.lcd.scy
  | .scx => s.lcd.scx
  | .ly => s.lcd.ly
  | .lyc => s.lcd.lyc
  | .dma => s.lcd.dmaReg
  | .bgp => if s.ppu.palLock then 0xFF else s.lcd.bgp
  | .obp0 => if s.ppu.palLock then 0xFF else s.lcd.obp0
  | .obp1 => if s.ppu.palLock then 0xFF else s.lcd.obp1
  | .wy => s.lcd.wy
  | .wx => s.lcd.wx

/-- A CPU read of an I/O register (R209, R1460). -/
def State.readIo (s : State) (r : IoReg) : Byte :=
  match s.port r with
  | none => s.readOwn r
  | some p => Config.deviceRead p.kind p.model (s.others.of p.kind) p.place

/-- A CPU read of what an address reaches (R201, R212, R213). -/
def State.readTarget (s : State) (t : Target) : Byte :=
  match t with
  | .rom k => s.mem.read k
  | .vram k => if s.ppu.vramLock then 0xFF else s.mem.read k
  | .ram k => s.mem.read k
  | .oam k => if s.ppu.oamLock then 0xFF else s.mem.read k
  | .io r => s.readIo r
  | .ie => s.intEnable
  | .openBus => 0xFF

/-- `MemRead(addr, 1)` (R12, R216). -/
def State.memRead (s : State) (addr : Word) : Byte := s.readTarget (s.target addr)

/-- What a CPU read of an I/O register does: nothing, "reads have no side effects in this block", but where the
register is a fitted device's, "whatever effect the device defines" (R218). -/
def State.afterReadIo (s : State) (r : IoReg) : State :=
  match s.port r with
  | none => s
  | some p => s.setOther p.kind (Config.deviceReadEffect p.kind p.model (s.others.of p.kind) p.place)

/-- What a CPU read of what an address reaches does (R218). -/
def State.afterReadTarget (s : State) (t : Target) : State :=
  match t with
  | .rom _ => s
  | .vram _ => s
  | .ram _ => s
  | .oam _ => s
  | .io r => s.afterReadIo r
  | .ie => s
  | .openBus => s

/-- The state after `MemRead(addr, 1)`, whose value is `memRead` (R216, R218). -/
def State.afterRead (s : State) (addr : Word) : State := s.afterReadTarget (s.target addr)

/-! ### Writing -/

/-- Store a byte in a memory cell. -/
def State.setCell (s : State) (k : Nat) (v : Byte) : State := { s with mem := s.mem.write k v }

/-- The timer after a tick or a write, with its request (R1461). -/
def State.setTimer (s : State) (t : Timer × Bool) : State := { s with timer := t.1 }.requestIf .timer t.2

/-- The joypad after a write or an input change, with its request (R1462). -/
def State.setJoypad (s : State) (j : Joypad × Bool) : State := { s with joypad := j.1 }.requestIf .joypad j.2

/-- The serial unit after a tick, with its request (R1463). -/
def State.setSerial (s : State) (u : Serial × Bool) : State := { s with serial := u.1 }.requestIf .serial u.2

/-- The LCD register bank changed. -/
def State.setLcd (s : State) (l : Lcd) : State := { s with lcd := l }

/-- A CPU write to a palette register: dropped while the palettes are locked (R213). -/
def State.setPalette (s : State) (l : Lcd) : State := if s.ppu.palLock then s else s.setLcd l

/-- A CPU write of v to 0xFF46: the register, and the start of an OAM DMA from page `v << 8` (R1401). -/
def State.startDma (s : State) (v : Byte) : State :=
  { s with lcd := { s.lcd with dmaReg := v }, dma := ⟨true, wordOf v 0, 0, 0⟩ }

/-- A CPU write to an I/O register of the block or of a default device (R209; R114, R117 to R126; R1401; R1461
to R1463). -/
def State.writeOwn (s : State) (r : IoReg) (v : Byte) : State :=
  match r with
  | .p1 => s.setJoypad (s.joypad.write v)
  | .sb => { s with serial := s.serial.writeSb v }
  | .sc => { s with serial := s.serial.writeSc v }
  | .div => s.setTimer s.timer.writeDiv
  | .tima => s.setTimer (s.timer.writeTima v)
  | .tma => s.setTimer (s.timer.writeTma v)
  | .tac => s.setTimer (s.timer.writeTac v)
  | .intFlag => { s with intFlag := v.extractLsb' 0 5 }
  | .lcdc => s.setLcd { s.lcd with lcdc := v }
  | .stat => s.setLcd { s.lcd with statEnable := v.extractLsb' 3 4 }
  | .scy => s.setLcd { s.lcd with scy := v }
  | .scx => s.setLcd { s.lcd with scx := v }
  | .ly => s
  | .lyc => s.setLcd { s.lcd with lyc := v }
  | .dma => s.startDma v
  | .bgp => s.setPalette { s.lcd with bgp := v }
  | .obp0 => s.setPalette { s.lcd with obp0 := v }
  | .obp1 => s.setPalette { s.lcd with obp1 := v }
  | .wy => s.setLcd { s.lcd with wy := v }
  | .wx => s.setLcd { s.lcd with wx := v }

/-- A CPU write to an I/O register (R209, R1460). -/
def State.writeIo (s : State) (r : IoReg) (v : Byte) : State :=
  match s.port r with
  | none => s.writeOwn r v
  | some p => s.setOther p.kind (Config.deviceWrite p.kind p.model (s.others.of p.kind) p.place v)

/-- A CPU write to what an address reaches (R201, R202, R212, R213). -/
def State.writeTarget (s : State) (t : Target) (v : Byte) : State :=
  match t with
  | .rom _ => s
  | .vram k => if s.ppu.vramLock then s else s.setCell k v
  | .ram k => s.setCell k v
  | .oam k => if s.ppu.oamLock then s else s.setCell k v
  | .io r => s.writeIo r v
  | .ie => { s with intEnable := v }
  | .openBus => s

/-- `MemWrite(addr, 1, v)` (R12, R216). -/
def State.memWrite (s : State) (addr : Word) (v : Byte) : State := s.writeTarget (s.target addr) v

/-- `MemRead(addr, 2)`: little-endian, the byte at addr read first, wrapping at 0xFFFF (R12, R214, R215). -/
def State.memRead16 (s : State) (addr : Word) : Word × State :=
  let s1 := s.afterRead addr
  (wordOf (s1.memRead (addr + 1)) (s.memRead addr), s1.afterRead (addr + 1))

/-- `MemWrite(addr, 2, v)`: the low byte, then the high byte at the next address (R12, R214). -/
def State.memWrite16 (s : State) (addr : Word) (v : Word) : State :=
  (s.memWrite addr (loByte v)).memWrite (addr + 1) (hiByte v)

/-! ### Operands through memory -/

/-- The value of an operand `r8(i)` (R104). -/
def State.operand (s : State) (o : Operand8) : Byte :=
  match o with
  | .reg r => s.reg r
  | .indHl => s.memRead s.hl

/-- The state after the value of an operand `r8(i)` has been read (R104, R218). -/
def State.afterOperand (s : State) (o : Operand8) : State :=
  match o with
  | .reg _ => s
  | .indHl => s.afterRead s.hl

/-- A write of an operand `r8(i)` (R104). -/
def State.setOperand (s : State) (o : Operand8) (v : Byte) : State :=
  match o with
  | .reg r => s.setReg r v
  | .indHl => s.memWrite s.hl v

/-- The address of an operand `r16mem(i)` (R107). -/
def State.memAddr (s : State) (r : RegMem) : Word :=
  match r with
  | .bc => s.pair .bc
  | .de => s.pair .de
  | .hlInc => s.hl
  | .hlDec => s.hl

/-- What an operand `r16mem(i)` does to HL after the access (R107; R410 to R413). -/
def State.stepHl (s : State) (r : RegMem) : State :=
  match r with
  | .bc => s
  | .de => s
  | .hlInc => s.setPair .hl (s.hl + 1)
  | .hlDec => s.setPair .hl (s.hl - 1)

/-- The address in page 0xFF of an `a8` or `(C)` operand: `0xFF00 + v` (30_encoding.md R302). -/
def highAddr (v : Byte) : Word := wordOf 0xFF v

/-! ### The instruction stream and the stack -/

/-- `Fetch8()` (R13). With `halt_skip` set it does not advance pc, and clears `halt_skip` (R1111). -/
def State.fetch8 (s : State) : Byte × State :=
  let s1 := s.afterRead s.regs.pc
  if s.ctl.haltSkip then (s.memRead s.regs.pc, { s1 with ctl := { s1.ctl with haltSkip := false } })
  else (s.memRead s.regs.pc, s1.setPc (s1.regs.pc + 1))

/-- `Push16(v)`: the high byte at SP - 1, then the low byte at SP - 2 (R14). -/
def State.push16 (s : State) (v : Word) : State :=
  let s1 := s.setSp (s.regs.sp - 1)
  let s2 := s1.memWrite s1.regs.sp (hiByte v)
  let s3 := s2.setSp (s2.regs.sp - 1)
  s3.memWrite s3.regs.sp (loByte v)

/-- `Pop16()`: the low byte at SP, then the high byte at SP + 1 (R14). -/
def State.pop16 (s : State) : Word × State :=
  let lo := s.memRead s.regs.sp
  let s1 := (s.afterRead s.regs.sp).setSp (s.regs.sp + 1)
  let hi := s1.memRead s1.regs.sp
  let s2 := (s1.afterRead s1.regs.sp).setSp (s1.regs.sp + 1)
  (wordOf hi lo, s2)

/-! ### Interrupts and the fault state -/

/-- IME, and `ime_delay <- 0` with it (R919, R1113, R1200). -/
def State.setIme (s : State) (v : Bool) : State := { s with ctl := { s.ctl with ime := v, imeDelay := 0 } }

/-- Taking an interrupt (R1200, R1204, R1205): IME, `ime_delay` and `halted` cleared, IF bit i cleared, pc
pushed, pc at the vector. Nothing else is saved. -/
def State.dispatch (s : State) (i : IntSource) : State :=
  let s1 : State :=
    { s with
      ctl := { s.ctl with ime := false, imeDelay := 0, halted := false }
      intFlag := s.intFlag &&& ~~~i.bit }
  (s1.push16 s1.regs.pc).setPc i.vector

/-- A return: `pc <- Pop16()` (R917). -/
def State.ret (s : State) : State :=
  let (v, s1) := s.pop16
  s1.setPc v

/-- The return from an interrupt: pc popped, IME = 1 at once, the EI countdown cancelled (R919, R1211). -/
def State.retInterrupt (s : State) : State := s.ret.setIme true

/-- `raise IllegalOpcode(op, addr)`: the fault state (R16, R1208). addr is where the opcode was fetched
from. -/
def State.raise (s : State) (op : Byte) : State :=
  { s with ctl := { s.ctl with fault := some ⟨op, s.ctl.opcodeAddr⟩ } }

/-- `ApplyEiCountdown()` (R1206). -/
def State.applyEi (s : State) : State :=
  if s.ctl.imeDelay = 0 then s
  else if s.ctl.imeDelay = 1 then { s with ctl := { s.ctl with imeDelay := 0, ime := true } }
  else { s with ctl := { s.ctl with imeDelay := s.ctl.imeDelay - 1 } }

end Sys2Proof.Machine
end

