-- ==== Sys2Proof/Machine/Arithmetic.lean ====
section
/-!
DEFINITION. The arithmetic instructions (spec/41_arithmetic.md R510 to R533), and the accumulator operation that the
logic instructions share.
-/

namespace Sys2Proof.Machine

/-! ### Shared operations -/

/-- `res <- op(x[A], v, C); x[A] <- res.value; Merge(res)` (R510 to R524, R610 to R618). CP's value is A
itself, so A keeps it (R502). -/
def State.aluA (s : State) (op : AluOp) (v : Byte) : State :=
  let r := alu op (s.reg .a) v s.flagC
  (s.setReg .a r.value).merge r

/-- The same, of an operand `r8(z)`, which is read first. -/
def State.aluOperand (s : State) (op : AluOp) (o : Operand8) : State := (s.afterOperand o).aluA op (s.operand o)

/-- `INC r`, `INC (HL)` (R525, R526). -/
def State.incOperand (s : State) (o : Operand8) : State :=
  let r := inc8 (s.operand o)
  ((s.afterOperand o).setOperand o r.value).merge r

/-- `DEC r`, `DEC (HL)` (R527, R528). -/
def State.decOperand (s : State) (o : Operand8) : State :=
  let r := dec8 (s.operand o)
  ((s.afterOperand o).setOperand o r.value).merge r

/-- `INC rr` (R529). -/
def State.incPair (s : State) (p : Reg16) : State := s.setPair p (s.pair p + 1)

/-- `DEC rr` (R530). -/
def State.decPair (s : State) (p : Reg16) : State := s.setPair p (s.pair p - 1)

/-- `ADD HL, rr` (R531). -/
def State.addHl (s : State) (p : Reg16) : State :=
  let r := add16 s.hl (s.pair p)
  (s.setPair .hl r.value).merge r

/-- `ADD SP, e8` (R532). -/
def State.addSp (s : State) (e : Byte) : State :=
  let r := addSpOffset s.regs.sp e
  (s.setSp r.value).merge r

/-- `DAA` (R533). -/
def State.daaA (s : State) : State :=
  let r := daa (s.reg .a) s.flagN s.flagH s.flagC
  (s.setReg .a r.value).merge r

/-! ### The instructions -/

/-- `INC BC` (R529), 03. -/
def execIncBc (s : State) : Result := .next (s.incPair .bc)

/-- `INC B` (R525), 04. -/
def execIncB (s : State) : Result := .next (s.incOperand (.reg .b))

/-- `DEC B` (R527), 05. -/
def execDecB (s : State) : Result := .next (s.decOperand (.reg .b))

/-- `ADD HL, BC` (R531), 09. -/
def execAddHlBc (s : State) : Result := .next (s.addHl .bc)

/-- `DEC BC` (R530), 0B. -/
def execDecBc (s : State) : Result := .next (s.decPair .bc)

/-- `INC C` (R525), 0C. -/
def execIncC (s : State) : Result := .next (s.incOperand (.reg .c))

/-- `DEC C` (R527), 0D. -/
def execDecC (s : State) : Result := .next (s.decOperand (.reg .c))

/-- `INC DE` (R529), 13. -/
def execIncDe (s : State) : Result := .next (s.incPair .de)

/-- `INC D` (R525), 14. -/
def execIncD (s : State) : Result := .next (s.incOperand (.reg .d))

/-- `DEC D` (R527), 15. -/
def execDecD (s : State) : Result := .next (s.decOperand (.reg .d))

/-- `ADD HL, DE` (R531), 19. -/
def execAddHlDe (s : State) : Result := .next (s.addHl .de)

/-- `DEC DE` (R530), 1B. -/
def execDecDe (s : State) : Result := .next (s.decPair .de)

/-- `INC E` (R525), 1C. -/
def execIncE (s : State) : Result := .next (s.incOperand (.reg .e))

/-- `DEC E` (R527), 1D. -/
def execDecE (s : State) : Result := .next (s.decOperand (.reg .e))

/-- `INC HL` (R529), 23. -/
def execIncHl (s : State) : Result := .next (s.incPair .hl)

/-- `INC H` (R525), 24. -/
def execIncH (s : State) : Result := .next (s.incOperand (.reg .h))

/-- `DEC H` (R527), 25. -/
def execDecH (s : State) : Result := .next (s.decOperand (.reg .h))

/-- `DAA` (R533), 27. -/
def execDaa (s : State) : Result := .next (s.daaA)

/-- `ADD HL, HL` (R531), 29. -/
def execAddHlHl (s : State) : Result := .next (s.addHl .hl)

/-- `DEC HL` (R530), 2B. -/
def execDecHl (s : State) : Result := .next (s.decPair .hl)

/-- `INC L` (R525), 2C. -/
def execIncL (s : State) : Result := .next (s.incOperand (.reg .l))

/-- `DEC L` (R527), 2D. -/
def execDecL (s : State) : Result := .next (s.decOperand (.reg .l))

/-- `INC SP` (R529), 33. -/
def execIncSp (s : State) : Result := .next (s.incPair .sp)

/-- `INC (HL)` (R526), 34. -/
def execIncIndHl (s : State) : Result := .next (s.incOperand .indHl)

/-- `DEC (HL)` (R528), 35. -/
def execDecIndHl (s : State) : Result := .next (s.decOperand .indHl)

/-- `ADD HL, SP` (R531), 39. -/
def execAddHlSp (s : State) : Result := .next (s.addHl .sp)

/-- `DEC SP` (R530), 3B. -/
def execDecSp (s : State) : Result := .next (s.decPair .sp)

/-- `INC A` (R525), 3C. -/
def execIncA (s : State) : Result := .next (s.incOperand (.reg .a))

/-- `DEC A` (R527), 3D. -/
def execDecA (s : State) : Result := .next (s.decOperand (.reg .a))

/-- `ADD A, B` (R510), 80. -/
def execAddAB (s : State) : Result := .next (s.aluOperand .add (.reg .b))

/-- `ADD A, C` (R510), 81. -/
def execAddAC (s : State) : Result := .next (s.aluOperand .add (.reg .c))

/-- `ADD A, D` (R510), 82. -/
def execAddAD (s : State) : Result := .next (s.aluOperand .add (.reg .d))

/-- `ADD A, E` (R510), 83. -/
def execAddAE (s : State) : Result := .next (s.aluOperand .add (.reg .e))

/-- `ADD A, H` (R510), 84. -/
def execAddAH (s : State) : Result := .next (s.aluOperand .add (.reg .h))

/-- `ADD A, L` (R510), 85. -/
def execAddAL (s : State) : Result := .next (s.aluOperand .add (.reg .l))

/-- `ADD A, (HL)` (R511), 86. -/
def execAddAIndHl (s : State) : Result := .next (s.aluOperand .add .indHl)

/-- `ADD A, A` (R510), 87. -/
def execAddAA (s : State) : Result := .next (s.aluOperand .add (.reg .a))

/-- `ADC A, B` (R513), 88. -/
def execAdcAB (s : State) : Result := .next (s.aluOperand .adc (.reg .b))

/-- `ADC A, C` (R513), 89. -/
def execAdcAC (s : State) : Result := .next (s.aluOperand .adc (.reg .c))

/-- `ADC A, D` (R513), 8A. -/
def execAdcAD (s : State) : Result := .next (s.aluOperand .adc (.reg .d))

/-- `ADC A, E` (R513), 8B. -/
def execAdcAE (s : State) : Result := .next (s.aluOperand .adc (.reg .e))

/-- `ADC A, H` (R513), 8C. -/
def execAdcAH (s : State) : Result := .next (s.aluOperand .adc (.reg .h))

/-- `ADC A, L` (R513), 8D. -/
def execAdcAL (s : State) : Result := .next (s.aluOperand .adc (.reg .l))

/-- `ADC A, (HL)` (R514), 8E. -/
def execAdcAIndHl (s : State) : Result := .next (s.aluOperand .adc .indHl)

/-- `ADC A, A` (R513), 8F. -/
def execAdcAA (s : State) : Result := .next (s.aluOperand .adc (.reg .a))

/-- `SUB A, B` (R516), 90. -/
def execSubAB (s : State) : Result := .next (s.aluOperand .sub (.reg .b))

/-- `SUB A, C` (R516), 91. -/
def execSubAC (s : State) : Result := .next (s.aluOperand .sub (.reg .c))

/-- `SUB A, D` (R516), 92. -/
def execSubAD (s : State) : Result := .next (s.aluOperand .sub (.reg .d))

/-- `SUB A, E` (R516), 93. -/
def execSubAE (s : State) : Result := .next (s.aluOperand .sub (.reg .e))

/-- `SUB A, H` (R516), 94. -/
def execSubAH (s : State) : Result := .next (s.aluOperand .sub (.reg .h))

/-- `SUB A, L` (R516), 95. -/
def execSubAL (s : State) : Result := .next (s.aluOperand .sub (.reg .l))

/-- `SUB A, (HL)` (R517), 96. -/
def execSubAIndHl (s : State) : Result := .next (s.aluOperand .sub .indHl)

/-- `SUB A, A` (R516), 97. -/
def execSubAA (s : State) : Result := .next (s.aluOperand .sub (.reg .a))

/-- `SBC A, B` (R519), 98. -/
def execSbcAB (s : State) : Result := .next (s.aluOperand .sbc (.reg .b))

/-- `SBC A, C` (R519), 99. -/
def execSbcAC (s : State) : Result := .next (s.aluOperand .sbc (.reg .c))

/-- `SBC A, D` (R519), 9A. -/
def execSbcAD (s : State) : Result := .next (s.aluOperand .sbc (.reg .d))

/-- `SBC A, E` (R519), 9B. -/
def execSbcAE (s : State) : Result := .next (s.aluOperand .sbc (.reg .e))

/-- `SBC A, H` (R519), 9C. -/
def execSbcAH (s : State) : Result := .next (s.aluOperand .sbc (.reg .h))

/-- `SBC A, L` (R519), 9D. -/
def execSbcAL (s : State) : Result := .next (s.aluOperand .sbc (.reg .l))

/-- `SBC A, (HL)` (R520), 9E. -/
def execSbcAIndHl (s : State) : Result := .next (s.aluOperand .sbc .indHl)

/-- `SBC A, A` (R519), 9F. -/
def execSbcAA (s : State) : Result := .next (s.aluOperand .sbc (.reg .a))

/-- `CP A, B` (R522), B8. -/
def execCpAB (s : State) : Result := .next (s.aluOperand .cp (.reg .b))

/-- `CP A, C` (R522), B9. -/
def execCpAC (s : State) : Result := .next (s.aluOperand .cp (.reg .c))

/-- `CP A, D` (R522), BA. -/
def execCpAD (s : State) : Result := .next (s.aluOperand .cp (.reg .d))

/-- `CP A, E` (R522), BB. -/
def execCpAE (s : State) : Result := .next (s.aluOperand .cp (.reg .e))

/-- `CP A, H` (R522), BC. -/
def execCpAH (s : State) : Result := .next (s.aluOperand .cp (.reg .h))

/-- `CP A, L` (R522), BD. -/
def execCpAL (s : State) : Result := .next (s.aluOperand .cp (.reg .l))

/-- `CP A, (HL)` (R523), BE. -/
def execCpAIndHl (s : State) : Result := .next (s.aluOperand .cp .indHl)

/-- `CP A, A` (R522), BF. -/
def execCpAA (s : State) : Result := .next (s.aluOperand .cp (.reg .a))

/-- `ADD A, n8` (R512), C6. -/
def execAddAN8 (n : Byte) (s : State) : Result := .next (s.aluA .add n)

/-- `ADC A, n8` (R515), CE. -/
def execAdcAN8 (n : Byte) (s : State) : Result := .next (s.aluA .adc n)

/-- `SUB A, n8` (R518), D6. -/
def execSubAN8 (n : Byte) (s : State) : Result := .next (s.aluA .sub n)

/-- `SBC A, n8` (R521), DE. -/
def execSbcAN8 (n : Byte) (s : State) : Result := .next (s.aluA .sbc n)

/-- `ADD SP, e8` (R532), E8. -/
def execAddSpE8 (e : Byte) (s : State) : Result := .next (s.addSp e)

/-- `CP A, n8` (R524), FE. -/
def execCpAN8 (n : Byte) (s : State) : Result := .next (s.aluA .cp n)

end Sys2Proof.Machine
end

