-- ==== Sys2Proof/Machine/Bit.lean ====
section
/-!
DEFINITION. The single-bit instructions (spec/44_bit.md R810 to R815).
-/

namespace Sys2Proof.Machine

/-! ### Shared operations -/

/-- `BIT b, r` and `BIT b, (HL)` (R810, R811). -/
def State.testBit (s : State) (b : BitVec 3) (o : Operand8) : State :=
  (s.afterOperand o).merge (bitTest b (s.operand o))

/-- `RES b, r` and `RES b, (HL)` (R812, R813). -/
def State.resetBit (s : State) (b : BitVec 3) (o : Operand8) : State :=
  (s.afterOperand o).setOperand o (bitReset b (s.operand o))

/-- `SET b, r` and `SET b, (HL)` (R814, R815). -/
def State.setBit (s : State) (b : BitVec 3) (o : Operand8) : State :=
  (s.afterOperand o).setOperand o (bitSet b (s.operand o))

/-! ### The instructions -/

/-- `BIT 0, B` (R810), CB 40. -/
def execBit0B (s : State) : Result := .next (s.testBit 0 (.reg .b))

/-- `BIT 0, C` (R810), CB 41. -/
def execBit0C (s : State) : Result := .next (s.testBit 0 (.reg .c))

/-- `BIT 0, D` (R810), CB 42. -/
def execBit0D (s : State) : Result := .next (s.testBit 0 (.reg .d))

/-- `BIT 0, E` (R810), CB 43. -/
def execBit0E (s : State) : Result := .next (s.testBit 0 (.reg .e))

/-- `BIT 0, H` (R810), CB 44. -/
def execBit0H (s : State) : Result := .next (s.testBit 0 (.reg .h))

/-- `BIT 0, L` (R810), CB 45. -/
def execBit0L (s : State) : Result := .next (s.testBit 0 (.reg .l))

/-- `BIT 0, (HL)` (R811), CB 46. -/
def execBit0IndHl (s : State) : Result := .next (s.testBit 0 .indHl)

/-- `BIT 0, A` (R810), CB 47. -/
def execBit0A (s : State) : Result := .next (s.testBit 0 (.reg .a))

/-- `BIT 1, B` (R810), CB 48. -/
def execBit1B (s : State) : Result := .next (s.testBit 1 (.reg .b))

/-- `BIT 1, C` (R810), CB 49. -/
def execBit1C (s : State) : Result := .next (s.testBit 1 (.reg .c))

/-- `BIT 1, D` (R810), CB 4A. -/
def execBit1D (s : State) : Result := .next (s.testBit 1 (.reg .d))

/-- `BIT 1, E` (R810), CB 4B. -/
def execBit1E (s : State) : Result := .next (s.testBit 1 (.reg .e))

/-- `BIT 1, H` (R810), CB 4C. -/
def execBit1H (s : State) : Result := .next (s.testBit 1 (.reg .h))

/-- `BIT 1, L` (R810), CB 4D. -/
def execBit1L (s : State) : Result := .next (s.testBit 1 (.reg .l))

/-- `BIT 1, (HL)` (R811), CB 4E. -/
def execBit1IndHl (s : State) : Result := .next (s.testBit 1 .indHl)

/-- `BIT 1, A` (R810), CB 4F. -/
def execBit1A (s : State) : Result := .next (s.testBit 1 (.reg .a))

/-- `BIT 2, B` (R810), CB 50. -/
def execBit2B (s : State) : Result := .next (s.testBit 2 (.reg .b))

/-- `BIT 2, C` (R810), CB 51. -/
def execBit2C (s : State) : Result := .next (s.testBit 2 (.reg .c))

/-- `BIT 2, D` (R810), CB 52. -/
def execBit2D (s : State) : Result := .next (s.testBit 2 (.reg .d))

/-- `BIT 2, E` (R810), CB 53. -/
def execBit2E (s : State) : Result := .next (s.testBit 2 (.reg .e))

/-- `BIT 2, H` (R810), CB 54. -/
def execBit2H (s : State) : Result := .next (s.testBit 2 (.reg .h))

/-- `BIT 2, L` (R810), CB 55. -/
def execBit2L (s : State) : Result := .next (s.testBit 2 (.reg .l))

/-- `BIT 2, (HL)` (R811), CB 56. -/
def execBit2IndHl (s : State) : Result := .next (s.testBit 2 .indHl)

/-- `BIT 2, A` (R810), CB 57. -/
def execBit2A (s : State) : Result := .next (s.testBit 2 (.reg .a))

/-- `BIT 3, B` (R810), CB 58. -/
def execBit3B (s : State) : Result := .next (s.testBit 3 (.reg .b))

/-- `BIT 3, C` (R810), CB 59. -/
def execBit3C (s : State) : Result := .next (s.testBit 3 (.reg .c))

/-- `BIT 3, D` (R810), CB 5A. -/
def execBit3D (s : State) : Result := .next (s.testBit 3 (.reg .d))

/-- `BIT 3, E` (R810), CB 5B. -/
def execBit3E (s : State) : Result := .next (s.testBit 3 (.reg .e))

/-- `BIT 3, H` (R810), CB 5C. -/
def execBit3H (s : State) : Result := .next (s.testBit 3 (.reg .h))

/-- `BIT 3, L` (R810), CB 5D. -/
def execBit3L (s : State) : Result := .next (s.testBit 3 (.reg .l))

/-- `BIT 3, (HL)` (R811), CB 5E. -/
def execBit3IndHl (s : State) : Result := .next (s.testBit 3 .indHl)

/-- `BIT 3, A` (R810), CB 5F. -/
def execBit3A (s : State) : Result := .next (s.testBit 3 (.reg .a))

/-- `BIT 4, B` (R810), CB 60. -/
def execBit4B (s : State) : Result := .next (s.testBit 4 (.reg .b))

/-- `BIT 4, C` (R810), CB 61. -/
def execBit4C (s : State) : Result := .next (s.testBit 4 (.reg .c))

/-- `BIT 4, D` (R810), CB 62. -/
def execBit4D (s : State) : Result := .next (s.testBit 4 (.reg .d))

/-- `BIT 4, E` (R810), CB 63. -/
def execBit4E (s : State) : Result := .next (s.testBit 4 (.reg .e))

/-- `BIT 4, H` (R810), CB 64. -/
def execBit4H (s : State) : Result := .next (s.testBit 4 (.reg .h))

/-- `BIT 4, L` (R810), CB 65. -/
def execBit4L (s : State) : Result := .next (s.testBit 4 (.reg .l))

/-- `BIT 4, (HL)` (R811), CB 66. -/
def execBit4IndHl (s : State) : Result := .next (s.testBit 4 .indHl)

/-- `BIT 4, A` (R810), CB 67. -/
def execBit4A (s : State) : Result := .next (s.testBit 4 (.reg .a))

/-- `BIT 5, B` (R810), CB 68. -/
def execBit5B (s : State) : Result := .next (s.testBit 5 (.reg .b))

/-- `BIT 5, C` (R810), CB 69. -/
def execBit5C (s : State) : Result := .next (s.testBit 5 (.reg .c))

/-- `BIT 5, D` (R810), CB 6A. -/
def execBit5D (s : State) : Result := .next (s.testBit 5 (.reg .d))

/-- `BIT 5, E` (R810), CB 6B. -/
def execBit5E (s : State) : Result := .next (s.testBit 5 (.reg .e))

/-- `BIT 5, H` (R810), CB 6C. -/
def execBit5H (s : State) : Result := .next (s.testBit 5 (.reg .h))

/-- `BIT 5, L` (R810), CB 6D. -/
def execBit5L (s : State) : Result := .next (s.testBit 5 (.reg .l))

/-- `BIT 5, (HL)` (R811), CB 6E. -/
def execBit5IndHl (s : State) : Result := .next (s.testBit 5 .indHl)

/-- `BIT 5, A` (R810), CB 6F. -/
def execBit5A (s : State) : Result := .next (s.testBit 5 (.reg .a))

/-- `BIT 6, B` (R810), CB 70. -/
def execBit6B (s : State) : Result := .next (s.testBit 6 (.reg .b))

/-- `BIT 6, C` (R810), CB 71. -/
def execBit6C (s : State) : Result := .next (s.testBit 6 (.reg .c))

/-- `BIT 6, D` (R810), CB 72. -/
def execBit6D (s : State) : Result := .next (s.testBit 6 (.reg .d))

/-- `BIT 6, E` (R810), CB 73. -/
def execBit6E (s : State) : Result := .next (s.testBit 6 (.reg .e))

/-- `BIT 6, H` (R810), CB 74. -/
def execBit6H (s : State) : Result := .next (s.testBit 6 (.reg .h))

/-- `BIT 6, L` (R810), CB 75. -/
def execBit6L (s : State) : Result := .next (s.testBit 6 (.reg .l))

/-- `BIT 6, (HL)` (R811), CB 76. -/
def execBit6IndHl (s : State) : Result := .next (s.testBit 6 .indHl)

/-- `BIT 6, A` (R810), CB 77. -/
def execBit6A (s : State) : Result := .next (s.testBit 6 (.reg .a))

/-- `BIT 7, B` (R810), CB 78. -/
def execBit7B (s : State) : Result := .next (s.testBit 7 (.reg .b))

/-- `BIT 7, C` (R810), CB 79. -/
def execBit7C (s : State) : Result := .next (s.testBit 7 (.reg .c))

/-- `BIT 7, D` (R810), CB 7A. -/
def execBit7D (s : State) : Result := .next (s.testBit 7 (.reg .d))

/-- `BIT 7, E` (R810), CB 7B. -/
def execBit7E (s : State) : Result := .next (s.testBit 7 (.reg .e))

/-- `BIT 7, H` (R810), CB 7C. -/
def execBit7H (s : State) : Result := .next (s.testBit 7 (.reg .h))

/-- `BIT 7, L` (R810), CB 7D. -/
def execBit7L (s : State) : Result := .next (s.testBit 7 (.reg .l))

/-- `BIT 7, (HL)` (R811), CB 7E. -/
def execBit7IndHl (s : State) : Result := .next (s.testBit 7 .indHl)

/-- `BIT 7, A` (R810), CB 7F. -/
def execBit7A (s : State) : Result := .next (s.testBit 7 (.reg .a))

/-- `RES 0, B` (R812), CB 80. -/
def execRes0B (s : State) : Result := .next (s.resetBit 0 (.reg .b))

/-- `RES 0, C` (R812), CB 81. -/
def execRes0C (s : State) : Result := .next (s.resetBit 0 (.reg .c))

/-- `RES 0, D` (R812), CB 82. -/
def execRes0D (s : State) : Result := .next (s.resetBit 0 (.reg .d))

/-- `RES 0, E` (R812), CB 83. -/
def execRes0E (s : State) : Result := .next (s.resetBit 0 (.reg .e))

/-- `RES 0, H` (R812), CB 84. -/
def execRes0H (s : State) : Result := .next (s.resetBit 0 (.reg .h))

/-- `RES 0, L` (R812), CB 85. -/
def execRes0L (s : State) : Result := .next (s.resetBit 0 (.reg .l))

/-- `RES 0, (HL)` (R813), CB 86. -/
def execRes0IndHl (s : State) : Result := .next (s.resetBit 0 .indHl)

/-- `RES 0, A` (R812), CB 87. -/
def execRes0A (s : State) : Result := .next (s.resetBit 0 (.reg .a))

/-- `RES 1, B` (R812), CB 88. -/
def execRes1B (s : State) : Result := .next (s.resetBit 1 (.reg .b))

/-- `RES 1, C` (R812), CB 89. -/
def execRes1C (s : State) : Result := .next (s.resetBit 1 (.reg .c))

/-- `RES 1, D` (R812), CB 8A. -/
def execRes1D (s : State) : Result := .next (s.resetBit 1 (.reg .d))

/-- `RES 1, E` (R812), CB 8B. -/
def execRes1E (s : State) : Result := .next (s.resetBit 1 (.reg .e))

/-- `RES 1, H` (R812), CB 8C. -/
def execRes1H (s : State) : Result := .next (s.resetBit 1 (.reg .h))

/-- `RES 1, L` (R812), CB 8D. -/
def execRes1L (s : State) : Result := .next (s.resetBit 1 (.reg .l))

/-- `RES 1, (HL)` (R813), CB 8E. -/
def execRes1IndHl (s : State) : Result := .next (s.resetBit 1 .indHl)

/-- `RES 1, A` (R812), CB 8F. -/
def execRes1A (s : State) : Result := .next (s.resetBit 1 (.reg .a))

/-- `RES 2, B` (R812), CB 90. -/
def execRes2B (s : State) : Result := .next (s.resetBit 2 (.reg .b))

/-- `RES 2, C` (R812), CB 91. -/
def execRes2C (s : State) : Result := .next (s.resetBit 2 (.reg .c))

/-- `RES 2, D` (R812), CB 92. -/
def execRes2D (s : State) : Result := .next (s.resetBit 2 (.reg .d))

/-- `RES 2, E` (R812), CB 93. -/
def execRes2E (s : State) : Result := .next (s.resetBit 2 (.reg .e))

/-- `RES 2, H` (R812), CB 94. -/
def execRes2H (s : State) : Result := .next (s.resetBit 2 (.reg .h))

/-- `RES 2, L` (R812), CB 95. -/
def execRes2L (s : State) : Result := .next (s.resetBit 2 (.reg .l))

/-- `RES 2, (HL)` (R813), CB 96. -/
def execRes2IndHl (s : State) : Result := .next (s.resetBit 2 .indHl)

/-- `RES 2, A` (R812), CB 97. -/
def execRes2A (s : State) : Result := .next (s.resetBit 2 (.reg .a))

/-- `RES 3, B` (R812), CB 98. -/
def execRes3B (s : State) : Result := .next (s.resetBit 3 (.reg .b))

/-- `RES 3, C` (R812), CB 99. -/
def execRes3C (s : State) : Result := .next (s.resetBit 3 (.reg .c))

/-- `RES 3, D` (R812), CB 9A. -/
def execRes3D (s : State) : Result := .next (s.resetBit 3 (.reg .d))

/-- `RES 3, E` (R812), CB 9B. -/
def execRes3E (s : State) : Result := .next (s.resetBit 3 (.reg .e))

/-- `RES 3, H` (R812), CB 9C. -/
def execRes3H (s : State) : Result := .next (s.resetBit 3 (.reg .h))

/-- `RES 3, L` (R812), CB 9D. -/
def execRes3L (s : State) : Result := .next (s.resetBit 3 (.reg .l))

/-- `RES 3, (HL)` (R813), CB 9E. -/
def execRes3IndHl (s : State) : Result := .next (s.resetBit 3 .indHl)

/-- `RES 3, A` (R812), CB 9F. -/
def execRes3A (s : State) : Result := .next (s.resetBit 3 (.reg .a))

/-- `RES 4, B` (R812), CB A0. -/
def execRes4B (s : State) : Result := .next (s.resetBit 4 (.reg .b))

/-- `RES 4, C` (R812), CB A1. -/
def execRes4C (s : State) : Result := .next (s.resetBit 4 (.reg .c))

/-- `RES 4, D` (R812), CB A2. -/
def execRes4D (s : State) : Result := .next (s.resetBit 4 (.reg .d))

/-- `RES 4, E` (R812), CB A3. -/
def execRes4E (s : State) : Result := .next (s.resetBit 4 (.reg .e))

/-- `RES 4, H` (R812), CB A4. -/
def execRes4H (s : State) : Result := .next (s.resetBit 4 (.reg .h))

/-- `RES 4, L` (R812), CB A5. -/
def execRes4L (s : State) : Result := .next (s.resetBit 4 (.reg .l))

/-- `RES 4, (HL)` (R813), CB A6. -/
def execRes4IndHl (s : State) : Result := .next (s.resetBit 4 .indHl)

/-- `RES 4, A` (R812), CB A7. -/
def execRes4A (s : State) : Result := .next (s.resetBit 4 (.reg .a))

/-- `RES 5, B` (R812), CB A8. -/
def execRes5B (s : State) : Result := .next (s.resetBit 5 (.reg .b))

/-- `RES 5, C` (R812), CB A9. -/
def execRes5C (s : State) : Result := .next (s.resetBit 5 (.reg .c))

/-- `RES 5, D` (R812), CB AA. -/
def execRes5D (s : State) : Result := .next (s.resetBit 5 (.reg .d))

/-- `RES 5, E` (R812), CB AB. -/
def execRes5E (s : State) : Result := .next (s.resetBit 5 (.reg .e))

/-- `RES 5, H` (R812), CB AC. -/
def execRes5H (s : State) : Result := .next (s.resetBit 5 (.reg .h))

/-- `RES 5, L` (R812), CB AD. -/
def execRes5L (s : State) : Result := .next (s.resetBit 5 (.reg .l))

/-- `RES 5, (HL)` (R813), CB AE. -/
def execRes5IndHl (s : State) : Result := .next (s.resetBit 5 .indHl)

/-- `RES 5, A` (R812), CB AF. -/
def execRes5A (s : State) : Result := .next (s.resetBit 5 (.reg .a))

/-- `RES 6, B` (R812), CB B0. -/
def execRes6B (s : State) : Result := .next (s.resetBit 6 (.reg .b))

/-- `RES 6, C` (R812), CB B1. -/
def execRes6C (s : State) : Result := .next (s.resetBit 6 (.reg .c))

/-- `RES 6, D` (R812), CB B2. -/
def execRes6D (s : State) : Result := .next (s.resetBit 6 (.reg .d))

/-- `RES 6, E` (R812), CB B3. -/
def execRes6E (s : State) : Result := .next (s.resetBit 6 (.reg .e))

/-- `RES 6, H` (R812), CB B4. -/
def execRes6H (s : State) : Result := .next (s.resetBit 6 (.reg .h))

/-- `RES 6, L` (R812), CB B5. -/
def execRes6L (s : State) : Result := .next (s.resetBit 6 (.reg .l))

/-- `RES 6, (HL)` (R813), CB B6. -/
def execRes6IndHl (s : State) : Result := .next (s.resetBit 6 .indHl)

/-- `RES 6, A` (R812), CB B7. -/
def execRes6A (s : State) : Result := .next (s.resetBit 6 (.reg .a))

/-- `RES 7, B` (R812), CB B8. -/
def execRes7B (s : State) : Result := .next (s.resetBit 7 (.reg .b))

/-- `RES 7, C` (R812), CB B9. -/
def execRes7C (s : State) : Result := .next (s.resetBit 7 (.reg .c))

/-- `RES 7, D` (R812), CB BA. -/
def execRes7D (s : State) : Result := .next (s.resetBit 7 (.reg .d))

/-- `RES 7, E` (R812), CB BB. -/
def execRes7E (s : State) : Result := .next (s.resetBit 7 (.reg .e))

/-- `RES 7, H` (R812), CB BC. -/
def execRes7H (s : State) : Result := .next (s.resetBit 7 (.reg .h))

/-- `RES 7, L` (R812), CB BD. -/
def execRes7L (s : State) : Result := .next (s.resetBit 7 (.reg .l))

/-- `RES 7, (HL)` (R813), CB BE. -/
def execRes7IndHl (s : State) : Result := .next (s.resetBit 7 .indHl)

/-- `RES 7, A` (R812), CB BF. -/
def execRes7A (s : State) : Result := .next (s.resetBit 7 (.reg .a))

/-- `SET 0, B` (R814), CB C0. -/
def execSet0B (s : State) : Result := .next (s.setBit 0 (.reg .b))

/-- `SET 0, C` (R814), CB C1. -/
def execSet0C (s : State) : Result := .next (s.setBit 0 (.reg .c))

/-- `SET 0, D` (R814), CB C2. -/
def execSet0D (s : State) : Result := .next (s.setBit 0 (.reg .d))

/-- `SET 0, E` (R814), CB C3. -/
def execSet0E (s : State) : Result := .next (s.setBit 0 (.reg .e))

/-- `SET 0, H` (R814), CB C4. -/
def execSet0H (s : State) : Result := .next (s.setBit 0 (.reg .h))

/-- `SET 0, L` (R814), CB C5. -/
def execSet0L (s : State) : Result := .next (s.setBit 0 (.reg .l))

/-- `SET 0, (HL)` (R815), CB C6. -/
def execSet0IndHl (s : State) : Result := .next (s.setBit 0 .indHl)

/-- `SET 0, A` (R814), CB C7. -/
def execSet0A (s : State) : Result := .next (s.setBit 0 (.reg .a))

/-- `SET 1, B` (R814), CB C8. -/
def execSet1B (s : State) : Result := .next (s.setBit 1 (.reg .b))

/-- `SET 1, C` (R814), CB C9. -/
def execSet1C (s : State) : Result := .next (s.setBit 1 (.reg .c))

/-- `SET 1, D` (R814), CB CA. -/
def execSet1D (s : State) : Result := .next (s.setBit 1 (.reg .d))

/-- `SET 1, E` (R814), CB CB. -/
def execSet1E (s : State) : Result := .next (s.setBit 1 (.reg .e))

/-- `SET 1, H` (R814), CB CC. -/
def execSet1H (s : State) : Result := .next (s.setBit 1 (.reg .h))

/-- `SET 1, L` (R814), CB CD. -/
def execSet1L (s : State) : Result := .next (s.setBit 1 (.reg .l))

/-- `SET 1, (HL)` (R815), CB CE. -/
def execSet1IndHl (s : State) : Result := .next (s.setBit 1 .indHl)

/-- `SET 1, A` (R814), CB CF. -/
def execSet1A (s : State) : Result := .next (s.setBit 1 (.reg .a))

/-- `SET 2, B` (R814), CB D0. -/
def execSet2B (s : State) : Result := .next (s.setBit 2 (.reg .b))

/-- `SET 2, C` (R814), CB D1. -/
def execSet2C (s : State) : Result := .next (s.setBit 2 (.reg .c))

/-- `SET 2, D` (R814), CB D2. -/
def execSet2D (s : State) : Result := .next (s.setBit 2 (.reg .d))

/-- `SET 2, E` (R814), CB D3. -/
def execSet2E (s : State) : Result := .next (s.setBit 2 (.reg .e))

/-- `SET 2, H` (R814), CB D4. -/
def execSet2H (s : State) : Result := .next (s.setBit 2 (.reg .h))

/-- `SET 2, L` (R814), CB D5. -/
def execSet2L (s : State) : Result := .next (s.setBit 2 (.reg .l))

/-- `SET 2, (HL)` (R815), CB D6. -/
def execSet2IndHl (s : State) : Result := .next (s.setBit 2 .indHl)

/-- `SET 2, A` (R814), CB D7. -/
def execSet2A (s : State) : Result := .next (s.setBit 2 (.reg .a))

/-- `SET 3, B` (R814), CB D8. -/
def execSet3B (s : State) : Result := .next (s.setBit 3 (.reg .b))

/-- `SET 3, C` (R814), CB D9. -/
def execSet3C (s : State) : Result := .next (s.setBit 3 (.reg .c))

/-- `SET 3, D` (R814), CB DA. -/
def execSet3D (s : State) : Result := .next (s.setBit 3 (.reg .d))

/-- `SET 3, E` (R814), CB DB. -/
def execSet3E (s : State) : Result := .next (s.setBit 3 (.reg .e))

/-- `SET 3, H` (R814), CB DC. -/
def execSet3H (s : State) : Result := .next (s.setBit 3 (.reg .h))

/-- `SET 3, L` (R814), CB DD. -/
def execSet3L (s : State) : Result := .next (s.setBit 3 (.reg .l))

/-- `SET 3, (HL)` (R815), CB DE. -/
def execSet3IndHl (s : State) : Result := .next (s.setBit 3 .indHl)

/-- `SET 3, A` (R814), CB DF. -/
def execSet3A (s : State) : Result := .next (s.setBit 3 (.reg .a))

/-- `SET 4, B` (R814), CB E0. -/
def execSet4B (s : State) : Result := .next (s.setBit 4 (.reg .b))

/-- `SET 4, C` (R814), CB E1. -/
def execSet4C (s : State) : Result := .next (s.setBit 4 (.reg .c))

/-- `SET 4, D` (R814), CB E2. -/
def execSet4D (s : State) : Result := .next (s.setBit 4 (.reg .d))

/-- `SET 4, E` (R814), CB E3. -/
def execSet4E (s : State) : Result := .next (s.setBit 4 (.reg .e))

/-- `SET 4, H` (R814), CB E4. -/
def execSet4H (s : State) : Result := .next (s.setBit 4 (.reg .h))

/-- `SET 4, L` (R814), CB E5. -/
def execSet4L (s : State) : Result := .next (s.setBit 4 (.reg .l))

/-- `SET 4, (HL)` (R815), CB E6. -/
def execSet4IndHl (s : State) : Result := .next (s.setBit 4 .indHl)

/-- `SET 4, A` (R814), CB E7. -/
def execSet4A (s : State) : Result := .next (s.setBit 4 (.reg .a))

/-- `SET 5, B` (R814), CB E8. -/
def execSet5B (s : State) : Result := .next (s.setBit 5 (.reg .b))

/-- `SET 5, C` (R814), CB E9. -/
def execSet5C (s : State) : Result := .next (s.setBit 5 (.reg .c))

/-- `SET 5, D` (R814), CB EA. -/
def execSet5D (s : State) : Result := .next (s.setBit 5 (.reg .d))

/-- `SET 5, E` (R814), CB EB. -/
def execSet5E (s : State) : Result := .next (s.setBit 5 (.reg .e))

/-- `SET 5, H` (R814), CB EC. -/
def execSet5H (s : State) : Result := .next (s.setBit 5 (.reg .h))

/-- `SET 5, L` (R814), CB ED. -/
def execSet5L (s : State) : Result := .next (s.setBit 5 (.reg .l))

/-- `SET 5, (HL)` (R815), CB EE. -/
def execSet5IndHl (s : State) : Result := .next (s.setBit 5 .indHl)

/-- `SET 5, A` (R814), CB EF. -/
def execSet5A (s : State) : Result := .next (s.setBit 5 (.reg .a))

/-- `SET 6, B` (R814), CB F0. -/
def execSet6B (s : State) : Result := .next (s.setBit 6 (.reg .b))

/-- `SET 6, C` (R814), CB F1. -/
def execSet6C (s : State) : Result := .next (s.setBit 6 (.reg .c))

/-- `SET 6, D` (R814), CB F2. -/
def execSet6D (s : State) : Result := .next (s.setBit 6 (.reg .d))

/-- `SET 6, E` (R814), CB F3. -/
def execSet6E (s : State) : Result := .next (s.setBit 6 (.reg .e))

/-- `SET 6, H` (R814), CB F4. -/
def execSet6H (s : State) : Result := .next (s.setBit 6 (.reg .h))

/-- `SET 6, L` (R814), CB F5. -/
def execSet6L (s : State) : Result := .next (s.setBit 6 (.reg .l))

/-- `SET 6, (HL)` (R815), CB F6. -/
def execSet6IndHl (s : State) : Result := .next (s.setBit 6 .indHl)

/-- `SET 6, A` (R814), CB F7. -/
def execSet6A (s : State) : Result := .next (s.setBit 6 (.reg .a))

/-- `SET 7, B` (R814), CB F8. -/
def execSet7B (s : State) : Result := .next (s.setBit 7 (.reg .b))

/-- `SET 7, C` (R814), CB F9. -/
def execSet7C (s : State) : Result := .next (s.setBit 7 (.reg .c))

/-- `SET 7, D` (R814), CB FA. -/
def execSet7D (s : State) : Result := .next (s.setBit 7 (.reg .d))

/-- `SET 7, E` (R814), CB FB. -/
def execSet7E (s : State) : Result := .next (s.setBit 7 (.reg .e))

/-- `SET 7, H` (R814), CB FC. -/
def execSet7H (s : State) : Result := .next (s.setBit 7 (.reg .h))

/-- `SET 7, L` (R814), CB FD. -/
def execSet7L (s : State) : Result := .next (s.setBit 7 (.reg .l))

/-- `SET 7, (HL)` (R815), CB FE. -/
def execSet7IndHl (s : State) : Result := .next (s.setBit 7 .indHl)

/-- `SET 7, A` (R814), CB FF. -/
def execSet7A (s : State) : Result := .next (s.setBit 7 (.reg .a))

end Sys2Proof.Machine
end

