-- ==== Sys2Proof/Machine/Control.lean ====
section
/-!
DEFINITION. The control transfer instructions (spec/45_control.md R910 to R920).
-/

namespace Sys2Proof.Machine

/-! ### Shared operations -/

/-- `if cond(c): pc <- a16` (R911). -/
def State.jumpIf (s : State) (k : Cond) (a : Word) : State := if s.holds k then s.setPc a else s

/-- `pc <- (pc + sext_16(e8)) mod 2^16` (R913). -/
def State.jumpRel (s : State) (e : Byte) : State := s.setPc (s.regs.pc + sext16 e)

/-- `if cond(c): pc <- (pc + sext_16(e8)) mod 2^16` (R914). -/
def State.jumpRelIf (s : State) (k : Cond) (e : Byte) : State := if s.holds k then s.jumpRel e else s

/-- `Push16(pc); pc <- a16` (R915, R920). -/
def State.call (s : State) (a : Word) : State := (s.push16 s.regs.pc).setPc a

/-- `if cond(c): Push16(pc); pc <- a16` (R916). -/
def State.callIf (s : State) (k : Cond) (a : Word) : State := if s.holds k then s.call a else s

/-- `if cond(c): pc <- Pop16()` (R918). -/
def State.retIf (s : State) (k : Cond) : State := if s.holds k then s.ret else s

/-! ### The instructions -/

/-- `JR e8` (R913), 18. -/
def execJrE8 (e : Byte) (s : State) : Result := .next (s.jumpRel e)

/-- `JR NZ, e8` (R914), 20. -/
def execJrNzE8 (e : Byte) (s : State) : Result := .next (s.jumpRelIf .nz e)

/-- `JR Z, e8` (R914), 28. -/
def execJrZE8 (e : Byte) (s : State) : Result := .next (s.jumpRelIf .z e)

/-- `JR NC, e8` (R914), 30. -/
def execJrNcE8 (e : Byte) (s : State) : Result := .next (s.jumpRelIf .nc e)

/-- `JR C, e8` (R914), 38. -/
def execJrCE8 (e : Byte) (s : State) : Result := .next (s.jumpRelIf .c e)

/-- `RET NZ` (R918), C0. -/
def execRetNz (s : State) : Result := .next (s.retIf .nz)

/-- `JP NZ, a16` (R911), C2. -/
def execJpNzA16 (a : Word) (s : State) : Result := .next (s.jumpIf .nz a)

/-- `JP a16` (R910), C3. -/
def execJpA16 (a : Word) (s : State) : Result := .next (s.setPc a)

/-- `CALL NZ, a16` (R916), C4. -/
def execCallNzA16 (a : Word) (s : State) : Result := .next (s.callIf .nz a)

/-- `RST $00` (R920), C7. -/
def execRst00 (s : State) : Result := .next (s.call 0x0000)

/-- `RET Z` (R918), C8. -/
def execRetZ (s : State) : Result := .next (s.retIf .z)

/-- `RET` (R917), C9. -/
def execRet (s : State) : Result := .next (s.ret)

/-- `JP Z, a16` (R911), CA. -/
def execJpZA16 (a : Word) (s : State) : Result := .next (s.jumpIf .z a)

/-- `CALL Z, a16` (R916), CC. -/
def execCallZA16 (a : Word) (s : State) : Result := .next (s.callIf .z a)

/-- `CALL a16` (R915), CD. -/
def execCallA16 (a : Word) (s : State) : Result := .next (s.call a)

/-- `RST $08` (R920), CF. -/
def execRst08 (s : State) : Result := .next (s.call 0x0008)

/-- `RET NC` (R918), D0. -/
def execRetNc (s : State) : Result := .next (s.retIf .nc)

/-- `JP NC, a16` (R911), D2. -/
def execJpNcA16 (a : Word) (s : State) : Result := .next (s.jumpIf .nc a)

/-- `CALL NC, a16` (R916), D4. -/
def execCallNcA16 (a : Word) (s : State) : Result := .next (s.callIf .nc a)

/-- `RST $10` (R920), D7. -/
def execRst10 (s : State) : Result := .next (s.call 0x0010)

/-- `RET C` (R918), D8. -/
def execRetC (s : State) : Result := .next (s.retIf .c)

/-- `RETI` (R919), D9. -/
def execReti (s : State) : Result := .next (s.retInterrupt)

/-- `JP C, a16` (R911), DA. -/
def execJpCA16 (a : Word) (s : State) : Result := .next (s.jumpIf .c a)

/-- `CALL C, a16` (R916), DC. -/
def execCallCA16 (a : Word) (s : State) : Result := .next (s.callIf .c a)

/-- `RST $18` (R920), DF. -/
def execRst18 (s : State) : Result := .next (s.call 0x0018)

/-- `RST $20` (R920), E7. -/
def execRst20 (s : State) : Result := .next (s.call 0x0020)

/-- `JP HL` (R912), E9. -/
def execJpHl (s : State) : Result := .next (s.setPc s.hl)

/-- `RST $28` (R920), EF. -/
def execRst28 (s : State) : Result := .next (s.call 0x0028)

/-- `RST $30` (R920), F7. -/
def execRst30 (s : State) : Result := .next (s.call 0x0030)

/-- `RST $38` (R920), FF. -/
def execRst38 (s : State) : Result := .next (s.call 0x0038)

end Sys2Proof.Machine
end

