-- ==== Sys2Proof/Machine/Loads.lean ====
section
/-!
DEFINITION. The load instructions (spec/40_loads.md R401 to R423).
-/

namespace Sys2Proof.Machine

/-! ### Shared operations -/

/-- `x[dst] <- x[r]` (R401). -/
def State.loadReg (s : State) (dst r : Reg8) : State := s.setReg dst (s.reg r)

/-- `x[dst] <- MemRead(addr, 1)` (R402, R414, R416, R418). -/
def State.loadFrom (s : State) (dst : Reg8) (addr : Word) : State :=
  (s.afterRead addr).setReg dst (s.memRead addr)

/-- `MemWrite(addr, 1, x[r])` (R403, R415, R417, R419). -/
def State.storeTo (s : State) (addr : Word) (r : Reg8) : State := s.memWrite addr (s.reg r)

/-- `x[dst] <- n8` (R404). -/
def State.loadByte (s : State) (dst : Reg8) (n : Byte) : State := s.setReg dst n

/-- `MemWrite(addr, 1, n8)` (R405). -/
def State.storeByte (s : State) (addr : Word) (n : Byte) : State := s.memWrite addr n

/-- `x[A] <- MemRead(...)` through a register pair, then HL stepped (R406, R407, R410, R411). -/
def State.loadAMem (s : State) (m : RegMem) : State :=
  ((s.afterRead (s.memAddr m)).setReg .a (s.memRead (s.memAddr m))).stepHl m

/-- `MemWrite(..., x[A])` through a register pair, then HL stepped (R408, R409, R412, R413). -/
def State.storeAMem (s : State) (m : RegMem) : State := (s.memWrite (s.memAddr m) (s.reg .a)).stepHl m

/-- `x[rr] <- n16` (R420). -/
def State.loadPair (s : State) (p : Reg16) (n : Word) : State := s.setPair p n

/-- SP stored at a16, low byte first (R421). -/
def State.storeSp (s : State) (a : Word) : State := s.memWrite16 a s.regs.sp

/-- `x[SP] <- x[HL]` (R422). -/
def State.loadSpHl (s : State) : State := s.setSp s.hl

/-- `res <- AddSpOffset(x[SP], e8); x[HL] <- res.value; Merge(res)` (R423). -/
def State.loadHlSpOffset (s : State) (e : Byte) : State :=
  let r := addSpOffset s.regs.sp e
  (s.setPair .hl r.value).merge r

/-! ### The instructions -/

/-- `LD BC, n16` (R420), 01. -/
def execLdBcN16 (n : Word) (s : State) : Result := .next (s.loadPair .bc n)

/-- `LD (BC), A` (R408), 02. -/
def execLdIndBcA (s : State) : Result := .next (s.storeAMem .bc)

/-- `LD B, n8` (R404), 06. -/
def execLdBN8 (n : Byte) (s : State) : Result := .next (s.loadByte .b n)

/-- `LD (a16), SP` (R421), 08. -/
def execLdIndA16Sp (a : Word) (s : State) : Result := .next (s.storeSp a)

/-- `LD A, (BC)` (R406), 0A. -/
def execLdAIndBc (s : State) : Result := .next (s.loadAMem .bc)

/-- `LD C, n8` (R404), 0E. -/
def execLdCN8 (n : Byte) (s : State) : Result := .next (s.loadByte .c n)

/-- `LD DE, n16` (R420), 11. -/
def execLdDeN16 (n : Word) (s : State) : Result := .next (s.loadPair .de n)

/-- `LD (DE), A` (R409), 12. -/
def execLdIndDeA (s : State) : Result := .next (s.storeAMem .de)

/-- `LD D, n8` (R404), 16. -/
def execLdDN8 (n : Byte) (s : State) : Result := .next (s.loadByte .d n)

/-- `LD A, (DE)` (R407), 1A. -/
def execLdAIndDe (s : State) : Result := .next (s.loadAMem .de)

/-- `LD E, n8` (R404), 1E. -/
def execLdEN8 (n : Byte) (s : State) : Result := .next (s.loadByte .e n)

/-- `LD HL, n16` (R420), 21. -/
def execLdHlN16 (n : Word) (s : State) : Result := .next (s.loadPair .hl n)

/-- `LD (HL+), A` (R412), 22. -/
def execLdIndHlIncA (s : State) : Result := .next (s.storeAMem .hlInc)

/-- `LD H, n8` (R404), 26. -/
def execLdHN8 (n : Byte) (s : State) : Result := .next (s.loadByte .h n)

/-- `LD A, (HL+)` (R410), 2A. -/
def execLdAIndHlInc (s : State) : Result := .next (s.loadAMem .hlInc)

/-- `LD L, n8` (R404), 2E. -/
def execLdLN8 (n : Byte) (s : State) : Result := .next (s.loadByte .l n)

/-- `LD SP, n16` (R420), 31. -/
def execLdSpN16 (n : Word) (s : State) : Result := .next (s.loadPair .sp n)

/-- `LD (HL-), A` (R413), 32. -/
def execLdIndHlDecA (s : State) : Result := .next (s.storeAMem .hlDec)

/-- `LD (HL), n8` (R405), 36. -/
def execLdIndHlN8 (n : Byte) (s : State) : Result := .next (s.storeByte s.hl n)

/-- `LD A, (HL-)` (R411), 3A. -/
def execLdAIndHlDec (s : State) : Result := .next (s.loadAMem .hlDec)

/-- `LD A, n8` (R404), 3E. -/
def execLdAN8 (n : Byte) (s : State) : Result := .next (s.loadByte .a n)

/-- `LD B, B` (R401), 40. -/
def execLdBB (s : State) : Result := .next (s.loadReg .b .b)

/-- `LD B, C` (R401), 41. -/
def execLdBC (s : State) : Result := .next (s.loadReg .b .c)

/-- `LD B, D` (R401), 42. -/
def execLdBD (s : State) : Result := .next (s.loadReg .b .d)

/-- `LD B, E` (R401), 43. -/
def execLdBE (s : State) : Result := .next (s.loadReg .b .e)

/-- `LD B, H` (R401), 44. -/
def execLdBH (s : State) : Result := .next (s.loadReg .b .h)

/-- `LD B, L` (R401), 45. -/
def execLdBL (s : State) : Result := .next (s.loadReg .b .l)

/-- `LD B, (HL)` (R402), 46. -/
def execLdBIndHl (s : State) : Result := .next (s.loadFrom .b s.hl)

/-- `LD B, A` (R401), 47. -/
def execLdBA (s : State) : Result := .next (s.loadReg .b .a)

/-- `LD C, B` (R401), 48. -/
def execLdCB (s : State) : Result := .next (s.loadReg .c .b)

/-- `LD C, C` (R401), 49. -/
def execLdCC (s : State) : Result := .next (s.loadReg .c .c)

/-- `LD C, D` (R401), 4A. -/
def execLdCD (s : State) : Result := .next (s.loadReg .c .d)

/-- `LD C, E` (R401), 4B. -/
def execLdCE (s : State) : Result := .next (s.loadReg .c .e)

/-- `LD C, H` (R401), 4C. -/
def execLdCH (s : State) : Result := .next (s.loadReg .c .h)

/-- `LD C, L` (R401), 4D. -/
def execLdCL (s : State) : Result := .next (s.loadReg .c .l)

/-- `LD C, (HL)` (R402), 4E. -/
def execLdCIndHl (s : State) : Result := .next (s.loadFrom .c s.hl)

/-- `LD C, A` (R401), 4F. -/
def execLdCA (s : State) : Result := .next (s.loadReg .c .a)

/-- `LD D, B` (R401), 50. -/
def execLdDB (s : State) : Result := .next (s.loadReg .d .b)

/-- `LD D, C` (R401), 51. -/
def execLdDC (s : State) : Result := .next (s.loadReg .d .c)

/-- `LD D, D` (R401), 52. -/
def execLdDD (s : State) : Result := .next (s.loadReg .d .d)

/-- `LD D, E` (R401), 53. -/
def execLdDE (s : State) : Result := .next (s.loadReg .d .e)

/-- `LD D, H` (R401), 54. -/
def execLdDH (s : State) : Result := .next (s.loadReg .d .h)

/-- `LD D, L` (R401), 55. -/
def execLdDL (s : State) : Result := .next (s.loadReg .d .l)

/-- `LD D, (HL)` (R402), 56. -/
def execLdDIndHl (s : State) : Result := .next (s.loadFrom .d s.hl)

/-- `LD D, A` (R401), 57. -/
def execLdDA (s : State) : Result := .next (s.loadReg .d .a)

/-- `LD E, B` (R401), 58. -/
def execLdEB (s : State) : Result := .next (s.loadReg .e .b)

/-- `LD E, C` (R401), 59. -/
def execLdEC (s : State) : Result := .next (s.loadReg .e .c)

/-- `LD E, D` (R401), 5A. -/
def execLdED (s : State) : Result := .next (s.loadReg .e .d)

/-- `LD E, E` (R401), 5B. -/
def execLdEE (s : State) : Result := .next (s.loadReg .e .e)

/-- `LD E, H` (R401), 5C. -/
def execLdEH (s : State) : Result := .next (s.loadReg .e .h)

/-- `LD E, L` (R401), 5D. -/
def execLdEL (s : State) : Result := .next (s.loadReg .e .l)

/-- `LD E, (HL)` (R402), 5E. -/
def execLdEIndHl (s : State) : Result := .next (s.loadFrom .e s.hl)

/-- `LD E, A` (R401), 5F. -/
def execLdEA (s : State) : Result := .next (s.loadReg .e .a)

/-- `LD H, B` (R401), 60. -/
def execLdHB (s : State) : Result := .next (s.loadReg .h .b)

/-- `LD H, C` (R401), 61. -/
def execLdHC (s : State) : Result := .next (s.loadReg .h .c)

/-- `LD H, D` (R401), 62. -/
def execLdHD (s : State) : Result := .next (s.loadReg .h .d)

/-- `LD H, E` (R401), 63. -/
def execLdHE (s : State) : Result := .next (s.loadReg .h .e)

/-- `LD H, H` (R401), 64. -/
def execLdHH (s : State) : Result := .next (s.loadReg .h .h)

/-- `LD H, L` (R401), 65. -/
def execLdHL (s : State) : Result := .next (s.loadReg .h .l)

/-- `LD H, (HL)` (R402), 66. -/
def execLdHIndHl (s : State) : Result := .next (s.loadFrom .h s.hl)

/-- `LD H, A` (R401), 67. -/
def execLdHA (s : State) : Result := .next (s.loadReg .h .a)

/-- `LD L, B` (R401), 68. -/
def execLdLB (s : State) : Result := .next (s.loadReg .l .b)

/-- `LD L, C` (R401), 69. -/
def execLdLC (s : State) : Result := .next (s.loadReg .l .c)

/-- `LD L, D` (R401), 6A. -/
def execLdLD (s : State) : Result := .next (s.loadReg .l .d)

/-- `LD L, E` (R401), 6B. -/
def execLdLE (s : State) : Result := .next (s.loadReg .l .e)

/-- `LD L, H` (R401), 6C. -/
def execLdLH (s : State) : Result := .next (s.loadReg .l .h)

/-- `LD L, L` (R401), 6D. -/
def execLdLL (s : State) : Result := .next (s.loadReg .l .l)

/-- `LD L, (HL)` (R402), 6E. -/
def execLdLIndHl (s : State) : Result := .next (s.loadFrom .l s.hl)

/-- `LD L, A` (R401), 6F. -/
def execLdLA (s : State) : Result := .next (s.loadReg .l .a)

/-- `LD (HL), B` (R403), 70. -/
def execLdIndHlB (s : State) : Result := .next (s.storeTo s.hl .b)

/-- `LD (HL), C` (R403), 71. -/
def execLdIndHlC (s : State) : Result := .next (s.storeTo s.hl .c)

/-- `LD (HL), D` (R403), 72. -/
def execLdIndHlD (s : State) : Result := .next (s.storeTo s.hl .d)

/-- `LD (HL), E` (R403), 73. -/
def execLdIndHlE (s : State) : Result := .next (s.storeTo s.hl .e)

/-- `LD (HL), H` (R403), 74. -/
def execLdIndHlH (s : State) : Result := .next (s.storeTo s.hl .h)

/-- `LD (HL), L` (R403), 75. -/
def execLdIndHlL (s : State) : Result := .next (s.storeTo s.hl .l)

/-- `LD (HL), A` (R403), 77. -/
def execLdIndHlA (s : State) : Result := .next (s.storeTo s.hl .a)

/-- `LD A, B` (R401), 78. -/
def execLdAB (s : State) : Result := .next (s.loadReg .a .b)

/-- `LD A, C` (R401), 79. -/
def execLdAC (s : State) : Result := .next (s.loadReg .a .c)

/-- `LD A, D` (R401), 7A. -/
def execLdAD (s : State) : Result := .next (s.loadReg .a .d)

/-- `LD A, E` (R401), 7B. -/
def execLdAE (s : State) : Result := .next (s.loadReg .a .e)

/-- `LD A, H` (R401), 7C. -/
def execLdAH (s : State) : Result := .next (s.loadReg .a .h)

/-- `LD A, L` (R401), 7D. -/
def execLdAL (s : State) : Result := .next (s.loadReg .a .l)

/-- `LD A, (HL)` (R402), 7E. -/
def execLdAIndHl (s : State) : Result := .next (s.loadFrom .a s.hl)

/-- `LD A, A` (R401), 7F. -/
def execLdAA (s : State) : Result := .next (s.loadReg .a .a)

/-- `LDH (a8), A` (R417), E0. -/
def execLdhIndA8A (a : Byte) (s : State) : Result := .next (s.storeTo (highAddr a) .a)

/-- `LDH (C), A` (R419), E2. -/
def execLdhIndCA (s : State) : Result := .next (s.storeTo (highAddr s.regs.c) .a)

/-- `LD (a16), A` (R415), EA. -/
def execLdIndA16A (a : Word) (s : State) : Result := .next (s.storeTo a .a)

/-- `LDH A, (a8)` (R416), F0. -/
def execLdhAIndA8 (a : Byte) (s : State) : Result := .next (s.loadFrom .a (highAddr a))

/-- `LDH A, (C)` (R418), F2. -/
def execLdhAIndC (s : State) : Result := .next (s.loadFrom .a (highAddr s.regs.c))

/-- `LD HL, SP+e8` (R423), F8. -/
def execLdHlSpE8 (e : Byte) (s : State) : Result := .next (s.loadHlSpOffset e)

/-- `LD SP, HL` (R422), F9. -/
def execLdSpHl (s : State) : Result := .next (s.loadSpHl)

/-- `LD A, (a16)` (R414), FA. -/
def execLdAIndA16 (a : Word) (s : State) : Result := .next (s.loadFrom .a a)

end Sys2Proof.Machine
end

