-- ==== Sys2Proof/Machine/Logic.lean ====
section
/-!
DEFINITION. The bitwise logic instructions (spec/42_logic.md R610 to R619). AND, XOR and OR are accumulator operations
(Arithmetic.lean).
-/

namespace Sys2Proof.Machine

/-! ### Shared operations -/

/-- `CPL` (R619). -/
def State.cplA (s : State) : State :=
  let r := cpl8 (s.reg .a)
  (s.setReg .a r.value).merge r

/-! ### The instructions -/

/-- `CPL` (R619), 2F. -/
def execCpl (s : State) : Result := .next (s.cplA)

/-- `AND A, B` (R610), A0. -/
def execAndAB (s : State) : Result := .next (s.aluOperand .and (.reg .b))

/-- `AND A, C` (R610), A1. -/
def execAndAC (s : State) : Result := .next (s.aluOperand .and (.reg .c))

/-- `AND A, D` (R610), A2. -/
def execAndAD (s : State) : Result := .next (s.aluOperand .and (.reg .d))

/-- `AND A, E` (R610), A3. -/
def execAndAE (s : State) : Result := .next (s.aluOperand .and (.reg .e))

/-- `AND A, H` (R610), A4. -/
def execAndAH (s : State) : Result := .next (s.aluOperand .and (.reg .h))

/-- `AND A, L` (R610), A5. -/
def execAndAL (s : State) : Result := .next (s.aluOperand .and (.reg .l))

/-- `AND A, (HL)` (R611), A6. -/
def execAndAIndHl (s : State) : Result := .next (s.aluOperand .and .indHl)

/-- `AND A, A` (R610), A7. -/
def execAndAA (s : State) : Result := .next (s.aluOperand .and (.reg .a))

/-- `XOR A, B` (R613), A8. -/
def execXorAB (s : State) : Result := .next (s.aluOperand .xor (.reg .b))

/-- `XOR A, C` (R613), A9. -/
def execXorAC (s : State) : Result := .next (s.aluOperand .xor (.reg .c))

/-- `XOR A, D` (R613), AA. -/
def execXorAD (s : State) : Result := .next (s.aluOperand .xor (.reg .d))

/-- `XOR A, E` (R613), AB. -/
def execXorAE (s : State) : Result := .next (s.aluOperand .xor (.reg .e))

/-- `XOR A, H` (R613), AC. -/
def execXorAH (s : State) : Result := .next (s.aluOperand .xor (.reg .h))

/-- `XOR A, L` (R613), AD. -/
def execXorAL (s : State) : Result := .next (s.aluOperand .xor (.reg .l))

/-- `XOR A, (HL)` (R614), AE. -/
def execXorAIndHl (s : State) : Result := .next (s.aluOperand .xor .indHl)

/-- `XOR A, A` (R613), AF. -/
def execXorAA (s : State) : Result := .next (s.aluOperand .xor (.reg .a))

/-- `OR A, B` (R616), B0. -/
def execOrAB (s : State) : Result := .next (s.aluOperand .or (.reg .b))

/-- `OR A, C` (R616), B1. -/
def execOrAC (s : State) : Result := .next (s.aluOperand .or (.reg .c))

/-- `OR A, D` (R616), B2. -/
def execOrAD (s : State) : Result := .next (s.aluOperand .or (.reg .d))

/-- `OR A, E` (R616), B3. -/
def execOrAE (s : State) : Result := .next (s.aluOperand .or (.reg .e))

/-- `OR A, H` (R616), B4. -/
def execOrAH (s : State) : Result := .next (s.aluOperand .or (.reg .h))

/-- `OR A, L` (R616), B5. -/
def execOrAL (s : State) : Result := .next (s.aluOperand .or (.reg .l))

/-- `OR A, (HL)` (R617), B6. -/
def execOrAIndHl (s : State) : Result := .next (s.aluOperand .or .indHl)

/-- `OR A, A` (R616), B7. -/
def execOrAA (s : State) : Result := .next (s.aluOperand .or (.reg .a))

/-- `AND A, n8` (R612), E6. -/
def execAndAN8 (n : Byte) (s : State) : Result := .next (s.aluA .and n)

/-- `XOR A, n8` (R615), EE. -/
def execXorAN8 (n : Byte) (s : State) : Result := .next (s.aluA .xor n)

/-- `OR A, n8` (R618), F6. -/
def execOrAN8 (n : Byte) (s : State) : Result := .next (s.aluA .or n)

end Sys2Proof.Machine
end

