-- ==== Sys2Proof/Machine/Misc.lean ====
section
/-!
DEFINITION. The system, flag and undefined instructions (spec/47_misc.md R1110 to R1118).
-/

namespace Sys2Proof.Machine

/-! ### Shared operations -/

/-- The halted state, entered by HALT, and by STOP when it acts as HALT (R1207). -/
def State.enterHalt (s : State) : State := { s with ctl := { s.ctl with halted := true } }

/-- `HALT`, with the HALT bug when `HaltBug` is set (R1111). -/
def State.halt (s : State) : State :=
  if s.params.haltBug && !s.ctl.ime && s.pending != 0 then { s with ctl := { s.ctl with haltSkip := true } }
  else s.enterHalt

/-- `STOP`: as HALT, or the fault, by `StopBehaviour` (R1112). -/
def State.stop (s : State) : State :=
  match s.params.stopBehaviour with
  | .asHalt => s.enterHalt
  | .fault => s.raise 0x10

/-- `EI`: `ime_delay <- 2` (R1114). -/
def State.armIme (s : State) : State := { s with ctl := { s.ctl with imeDelay := 2 } }

/-! ### The instructions -/

/-- `NOP` (R1110), 00. -/
def execNop (s : State) : Result := .next s

/-- `STOP` (R1112), 10. -/
def execStop (_ignored : Byte) (s : State) : Result := .next (s.stop)

/-- `SCF` (R1115), 37. -/
def execScf (s : State) : Result := .next (s.merge (carryFlags true))

/-- `CCF` (R1116), 3F. -/
def execCcf (s : State) : Result := .next (s.merge (carryFlags (!s.flagC)))

/-- `HALT` (R1111), 76. -/
def execHalt (s : State) : Result := .next (s.halt)

/-- `ILLEGAL_D3` (R1118), D3. -/
def execIllegalD3 (s : State) : Result := .next (s.raise 0xD3)

/-- `ILLEGAL_DB` (R1118), DB. -/
def execIllegalDB (s : State) : Result := .next (s.raise 0xDB)

/-- `ILLEGAL_DD` (R1118), DD. -/
def execIllegalDD (s : State) : Result := .next (s.raise 0xDD)

/-- `ILLEGAL_E3` (R1118), E3. -/
def execIllegalE3 (s : State) : Result := .next (s.raise 0xE3)

/-- `ILLEGAL_E4` (R1118), E4. -/
def execIllegalE4 (s : State) : Result := .next (s.raise 0xE4)

/-- `ILLEGAL_EB` (R1118), EB. -/
def execIllegalEB (s : State) : Result := .next (s.raise 0xEB)

/-- `ILLEGAL_EC` (R1118), EC. -/
def execIllegalEC (s : State) : Result := .next (s.raise 0xEC)

/-- `ILLEGAL_ED` (R1118), ED. -/
def execIllegalED (s : State) : Result := .next (s.raise 0xED)

/-- `DI` (R1113), F3. -/
def execDi (s : State) : Result := .next (s.setIme false)

/-- `ILLEGAL_F4` (R1118), F4. -/
def execIllegalF4 (s : State) : Result := .next (s.raise 0xF4)

/-- `EI` (R1114), FB. -/
def execEi (s : State) : Result := .next (s.armIme)

/-- `ILLEGAL_FC` (R1118), FC. -/
def execIllegalFC (s : State) : Result := .next (s.raise 0xFC)

/-- `ILLEGAL_FD` (R1118), FD. -/
def execIllegalFD (s : State) : Result := .next (s.raise 0xFD)

end Sys2Proof.Machine
end

