-- ==== Sys2Proof/Machine/RotateShift.lean ====
section
/-!
DEFINITION. The rotate and shift instructions (spec/43_rotate_shift.md R710 to R729).
-/

namespace Sys2Proof.Machine

/-! ### Shared operations -/

/-- An accumulator rotate, with checkZ = false (R710 to R713). -/
def State.rotateA (s : State) (op : ShiftOp) : State :=
  let r := shift op (s.reg .a) s.flagC false
  (s.setReg .a r.value).merge r

/-- A CB rotate or shift, with checkZ = true: read, write back, merge (R714 to R729). -/
def State.shiftOperand (s : State) (op : ShiftOp) (o : Operand8) : State :=
  let r := shift op (s.operand o) s.flagC true
  ((s.afterOperand o).setOperand o r.value).merge r

/-! ### The instructions -/

/-- `RLCA` (R710), 07. -/
def execRlca (s : State) : Result := .next (s.rotateA .rlc)

/-- `RRCA` (R711), 0F. -/
def execRrca (s : State) : Result := .next (s.rotateA .rrc)

/-- `RLA` (R712), 17. -/
def execRla (s : State) : Result := .next (s.rotateA .rl)

/-- `RRA` (R713), 1F. -/
def execRra (s : State) : Result := .next (s.rotateA .rr)

/-- `RLC B` (R714), CB 00. -/
def execRlcB (s : State) : Result := .next (s.shiftOperand .rlc (.reg .b))

/-- `RLC C` (R714), CB 01. -/
def execRlcC (s : State) : Result := .next (s.shiftOperand .rlc (.reg .c))

/-- `RLC D` (R714), CB 02. -/
def execRlcD (s : State) : Result := .next (s.shiftOperand .rlc (.reg .d))

/-- `RLC E` (R714), CB 03. -/
def execRlcE (s : State) : Result := .next (s.shiftOperand .rlc (.reg .e))

/-- `RLC H` (R714), CB 04. -/
def execRlcH (s : State) : Result := .next (s.shiftOperand .rlc (.reg .h))

/-- `RLC L` (R714), CB 05. -/
def execRlcL (s : State) : Result := .next (s.shiftOperand .rlc (.reg .l))

/-- `RLC (HL)` (R715), CB 06. -/
def execRlcIndHl (s : State) : Result := .next (s.shiftOperand .rlc .indHl)

/-- `RLC A` (R714), CB 07. -/
def execRlcA (s : State) : Result := .next (s.shiftOperand .rlc (.reg .a))

/-- `RRC B` (R716), CB 08. -/
def execRrcB (s : State) : Result := .next (s.shiftOperand .rrc (.reg .b))

/-- `RRC C` (R716), CB 09. -/
def execRrcC (s : State) : Result := .next (s.shiftOperand .rrc (.reg .c))

/-- `RRC D` (R716), CB 0A. -/
def execRrcD (s : State) : Result := .next (s.shiftOperand .rrc (.reg .d))

/-- `RRC E` (R716), CB 0B. -/
def execRrcE (s : State) : Result := .next (s.shiftOperand .rrc (.reg .e))

/-- `RRC H` (R716), CB 0C. -/
def execRrcH (s : State) : Result := .next (s.shiftOperand .rrc (.reg .h))

/-- `RRC L` (R716), CB 0D. -/
def execRrcL (s : State) : Result := .next (s.shiftOperand .rrc (.reg .l))

/-- `RRC (HL)` (R717), CB 0E. -/
def execRrcIndHl (s : State) : Result := .next (s.shiftOperand .rrc .indHl)

/-- `RRC A` (R716), CB 0F. -/
def execRrcA (s : State) : Result := .next (s.shiftOperand .rrc (.reg .a))

/-- `RL B` (R718), CB 10. -/
def execRlB (s : State) : Result := .next (s.shiftOperand .rl (.reg .b))

/-- `RL C` (R718), CB 11. -/
def execRlC (s : State) : Result := .next (s.shiftOperand .rl (.reg .c))

/-- `RL D` (R718), CB 12. -/
def execRlD (s : State) : Result := .next (s.shiftOperand .rl (.reg .d))

/-- `RL E` (R718), CB 13. -/
def execRlE (s : State) : Result := .next (s.shiftOperand .rl (.reg .e))

/-- `RL H` (R718), CB 14. -/
def execRlH (s : State) : Result := .next (s.shiftOperand .rl (.reg .h))

/-- `RL L` (R718), CB 15. -/
def execRlL (s : State) : Result := .next (s.shiftOperand .rl (.reg .l))

/-- `RL (HL)` (R719), CB 16. -/
def execRlIndHl (s : State) : Result := .next (s.shiftOperand .rl .indHl)

/-- `RL A` (R718), CB 17. -/
def execRlA (s : State) : Result := .next (s.shiftOperand .rl (.reg .a))

/-- `RR B` (R720), CB 18. -/
def execRrB (s : State) : Result := .next (s.shiftOperand .rr (.reg .b))

/-- `RR C` (R720), CB 19. -/
def execRrC (s : State) : Result := .next (s.shiftOperand .rr (.reg .c))

/-- `RR D` (R720), CB 1A. -/
def execRrD (s : State) : Result := .next (s.shiftOperand .rr (.reg .d))

/-- `RR E` (R720), CB 1B. -/
def execRrE (s : State) : Result := .next (s.shiftOperand .rr (.reg .e))

/-- `RR H` (R720), CB 1C. -/
def execRrH (s : State) : Result := .next (s.shiftOperand .rr (.reg .h))

/-- `RR L` (R720), CB 1D. -/
def execRrL (s : State) : Result := .next (s.shiftOperand .rr (.reg .l))

/-- `RR (HL)` (R721), CB 1E. -/
def execRrIndHl (s : State) : Result := .next (s.shiftOperand .rr .indHl)

/-- `RR A` (R720), CB 1F. -/
def execRrA (s : State) : Result := .next (s.shiftOperand .rr (.reg .a))

/-- `SLA B` (R722), CB 20. -/
def execSlaB (s : State) : Result := .next (s.shiftOperand .sla (.reg .b))

/-- `SLA C` (R722), CB 21. -/
def execSlaC (s : State) : Result := .next (s.shiftOperand .sla (.reg .c))

/-- `SLA D` (R722), CB 22. -/
def execSlaD (s : State) : Result := .next (s.shiftOperand .sla (.reg .d))

/-- `SLA E` (R722), CB 23. -/
def execSlaE (s : State) : Result := .next (s.shiftOperand .sla (.reg .e))

/-- `SLA H` (R722), CB 24. -/
def execSlaH (s : State) : Result := .next (s.shiftOperand .sla (.reg .h))

/-- `SLA L` (R722), CB 25. -/
def execSlaL (s : State) : Result := .next (s.shiftOperand .sla (.reg .l))

/-- `SLA (HL)` (R723), CB 26. -/
def execSlaIndHl (s : State) : Result := .next (s.shiftOperand .sla .indHl)

/-- `SLA A` (R722), CB 27. -/
def execSlaA (s : State) : Result := .next (s.shiftOperand .sla (.reg .a))

/-- `SRA B` (R724), CB 28. -/
def execSraB (s : State) : Result := .next (s.shiftOperand .sra (.reg .b))

/-- `SRA C` (R724), CB 29. -/
def execSraC (s : State) : Result := .next (s.shiftOperand .sra (.reg .c))

/-- `SRA D` (R724), CB 2A. -/
def execSraD (s : State) : Result := .next (s.shiftOperand .sra (.reg .d))

/-- `SRA E` (R724), CB 2B. -/
def execSraE (s : State) : Result := .next (s.shiftOperand .sra (.reg .e))

/-- `SRA H` (R724), CB 2C. -/
def execSraH (s : State) : Result := .next (s.shiftOperand .sra (.reg .h))

/-- `SRA L` (R724), CB 2D. -/
def execSraL (s : State) : Result := .next (s.shiftOperand .sra (.reg .l))

/-- `SRA (HL)` (R725), CB 2E. -/
def execSraIndHl (s : State) : Result := .next (s.shiftOperand .sra .indHl)

/-- `SRA A` (R724), CB 2F. -/
def execSraA (s : State) : Result := .next (s.shiftOperand .sra (.reg .a))

/-- `SWAP B` (R726), CB 30. -/
def execSwapB (s : State) : Result := .next (s.shiftOperand .swap (.reg .b))

/-- `SWAP C` (R726), CB 31. -/
def execSwapC (s : State) : Result := .next (s.shiftOperand .swap (.reg .c))

/-- `SWAP D` (R726), CB 32. -/
def execSwapD (s : State) : Result := .next (s.shiftOperand .swap (.reg .d))

/-- `SWAP E` (R726), CB 33. -/
def execSwapE (s : State) : Result := .next (s.shiftOperand .swap (.reg .e))

/-- `SWAP H` (R726), CB 34. -/
def execSwapH (s : State) : Result := .next (s.shiftOperand .swap (.reg .h))

/-- `SWAP L` (R726), CB 35. -/
def execSwapL (s : State) : Result := .next (s.shiftOperand .swap (.reg .l))

/-- `SWAP (HL)` (R727), CB 36. -/
def execSwapIndHl (s : State) : Result := .next (s.shiftOperand .swap .indHl)

/-- `SWAP A` (R726), CB 37. -/
def execSwapA (s : State) : Result := .next (s.shiftOperand .swap (.reg .a))

/-- `SRL B` (R728), CB 38. -/
def execSrlB (s : State) : Result := .next (s.shiftOperand .srl (.reg .b))

/-- `SRL C` (R728), CB 39. -/
def execSrlC (s : State) : Result := .next (s.shiftOperand .srl (.reg .c))

/-- `SRL D` (R728), CB 3A. -/
def execSrlD (s : State) : Result := .next (s.shiftOperand .srl (.reg .d))

/-- `SRL E` (R728), CB 3B. -/
def execSrlE (s : State) : Result := .next (s.shiftOperand .srl (.reg .e))

/-- `SRL H` (R728), CB 3C. -/
def execSrlH (s : State) : Result := .next (s.shiftOperand .srl (.reg .h))

/-- `SRL L` (R728), CB 3D. -/
def execSrlL (s : State) : Result := .next (s.shiftOperand .srl (.reg .l))

/-- `SRL (HL)` (R729), CB 3E. -/
def execSrlIndHl (s : State) : Result := .next (s.shiftOperand .srl .indHl)

/-- `SRL A` (R728), CB 3F. -/
def execSrlA (s : State) : Result := .next (s.shiftOperand .srl (.reg .a))

end Sys2Proof.Machine
end

