-- ==== Sys2Proof/Machine/Prefix.lean ====
section
/-!
DEFINITION. The escape prefix (spec/47_misc.md R1117): the instruction of a second opcode byte, by its fields
(spec/30_encoding.md R301, R308).
-/

namespace Sys2Proof.Machine

/-! ### Shared operations -/

/-- The rotate or shift operation of field y (R308). -/
def shiftOp (y : BitVec 3) : ShiftOp :=
  match y with
  | 0 => .rlc
  | 1 => .rrc
  | 2 => .rl
  | 3 => .rr
  | 4 => .sla
  | 5 => .sra
  | 6 => .swap
  | 7 => .srl

/-- `execute CbInstr(op2)` (R1117): x = op2[7:6] selects the group, y = op2[5:3] the operation or bit, z =
op2[2:0] the operand (R301, R308). -/
def State.prefixed (s : State) (op2 : Byte) : State :=
  let y : BitVec 3 := op2.extractLsb' 3 3
  let z : BitVec 3 := op2.extractLsb' 0 3
  match (op2.extractLsb' 6 2 : BitVec 2) with
  | 0 => s.shiftOperand (shiftOp y) (r8 z)
  | 1 => s.testBit y (r8 z)
  | 2 => s.resetBit y (r8 z)
  | 3 => s.setBit y (r8 z)

/-! ### The instructions -/

/-- `PREFIX CB` (R1117), CB and its second opcode byte. -/
def execPrefixCb (op2 : Byte) (s : State) : Result := .next (s.prefixed op2)

end Sys2Proof.Machine
end

