-- ==== Sys2Proof/Machine/Stack.lean ====
section
/-!
DEFINITION. The stack instructions (spec/46_stack.md R1010 to R1013).
-/

namespace Sys2Proof.Machine

/-! ### Shared operations -/

/-- `Push16(x[r16stk])` (R1010, R1011). -/
def State.pushStk (s : State) (r : RegStk) : State := s.push16 (s.stk r)

/-- `x[r16stk] <- Pop16()`; AF drops bits 3..0 (R1012, R1013). -/
def State.popStk (s : State) (r : RegStk) : State :=
  let (v, s1) := s.pop16
  s1.setStk r v

/-! ### The instructions -/

/-- `POP BC` (R1012), C1. -/
def execPopBc (s : State) : Result := .next (s.popStk .bc)

/-- `PUSH BC` (R1010), C5. -/
def execPushBc (s : State) : Result := .next (s.pushStk .bc)

/-- `POP DE` (R1012), D1. -/
def execPopDe (s : State) : Result := .next (s.popStk .de)

/-- `PUSH DE` (R1010), D5. -/
def execPushDe (s : State) : Result := .next (s.pushStk .de)

/-- `POP HL` (R1012), E1. -/
def execPopHl (s : State) : Result := .next (s.popStk .hl)

/-- `PUSH HL` (R1010), E5. -/
def execPushHl (s : State) : Result := .next (s.pushStk .hl)

/-- `POP AF` (R1013), F1. -/
def execPopAf (s : State) : Result := .next (s.popStk .af)

/-- `PUSH AF` (R1011), F5. -/
def execPushAf (s : State) : Result := .next (s.pushStk .af)

end Sys2Proof.Machine
end

