-- ==== Sys2Proof/Machine/DmaEngine.lean ====
section
/-!
DEFINITION. The OAM DMA engine (spec/60_exceptions.md R1400 to R1404). Its start is a bus write, in Ops.lean
(R1401).
-/

namespace Sys2Proof.Machine

/-- `DmaRead(a)` for a below 0xFE00: the byte the CPU bus would read, without the PPU locks (R1403). -/
def State.dmaBusRead (s : State) (addr : Word) : Byte :=
  match s.target addr with
  | .rom k => s.mem.read k
  | .vram k => s.mem.read k
  | .ram k => s.mem.read k
  | .oam k => s.mem.read k
  | .io r => s.readIo r
  | .ie => s.intEnable
  | .openBus => 0xFF

/-- `DmaRead(a)` with the state after it: source pages 0xFE and 0xFF give a draw, the free value
`DmaHighSource` (R1403, assumption 5). -/
def State.dmaRead (s : State) (addr : Word) : Byte × State :=
  if 0xFE00 ≤ addr.toNat then (Config.dmaHighSource s.draws, { s with draws := s.draws + 1 })
  else (s.dmaBusRead addr, s)

/-- The transfer of one byte: `OAM[dma_index] <- DmaRead(dma_src + dma_index)`, whatever the lock
(R1402). -/
def State.dmaCopy (s : State) : State :=
  let r := s.dmaRead (s.dma.src + BitVec.ofNat 16 s.dma.index)
  let s1 := r.2.setCell (0xFE00 + s.dma.index) r.1
  { s1 with
    dma := { s1.dma with sub := 0, index := s1.dma.index + 1, active := !(s1.dma.index + 1 == 160) } }

/-- `DmaDot()` (R1402). -/
def State.dmaDot (s : State) : State :=
  if !s.dma.active then s
  else if s.dma.sub + 1 = 4 then s.dmaCopy
  else { s with dma := { s.dma with sub := s.dma.sub + 1 } }

end Sys2Proof.Machine
end

