-- ==== Sys2Proof/Machine/Ppu.lean ====
section
/-!
DEFINITION. The PPU state machine (spec/60_exceptions.md R1300 to R1356): one dot, its phase functions, the
pixel pipeline, the STAT update, LCD off and on. The PPU reads VRAM, OAM and the palettes directly, never
through the locks (R213).
-/

namespace Sys2Proof.Machine

/-! ### Reading the LCD bank and memory -/

/-- LCDC bit n (R118). -/
def State.lcdcBit (s : State) (n : Nat) : Bool := s.lcd.lcdc.getLsbD n

/-- The sprite height h: 16 if LCDC.2 = 1, else 8 (R1321, R1351). -/
def State.spriteHeight (s : State) : Nat := if s.lcdcBit 2 then 16 else 8

/-- Byte j of OAM record k: `OAM[4k + j]` (R207). -/
def State.oamByte (s : State) (k : Fin 40) (j : Nat) : Byte := s.mem.read (0xFE00 + 4 * k.val + j)

/-! ### STAT and the LCD/STAT interrupt -/

/-- The event condition of the Event model (R1310): the mode changes to an enabled one, or LY = LYC
becomes true and is enabled. `statEnable` bits 0, 1, 2, 3 are STAT[3], [4], [5], [6]. -/
def statEvent (l : Lcd) (p : Ppu) (coinc : Bool) : Bool :=
  (p.mode != p.prevMode &&
    ((p.mode == .hBlank && l.statEnable.getLsbD 0) || (p.mode == .vBlank && l.statEnable.getLsbD 1) ||
      (p.mode == .oamScan && l.statEnable.getLsbD 2))) ||
  (coinc && !p.prevCoinc && l.statEnable.getLsbD 3)

/-- The STAT line: the OR of the four enabled conditions (R1310, R1311). -/
def statLine (l : Lcd) (p : Ppu) (coinc : Bool) : Bool :=
  (l.statEnable.getLsbD 3 && coinc) || (l.statEnable.getLsbD 0 && p.mode == .hBlank) ||
    (l.statEnable.getLsbD 1 && p.mode == .vBlank) || (l.statEnable.getLsbD 2 && p.mode == .oamScan)

/-- Whether the condition of the chosen model fires (R1310, R1311). -/
def statFires (model : StatIrqModel) (l : Lcd) (p : Ppu) (coinc : Bool) : Bool :=
  match model with
  | .event => statEvent l p coinc
  | .line => statLine l p coinc && !p.prevLine

/-- `UpdateLcdRegs()` (R1310). -/
def State.updateLcdRegs (s : State) : State :=
  let coinc := s.lcd.ly == s.lcd.lyc
  let fire := statFires s.params.statIrqModel s.lcd s.ppu coinc
  let line := statLine s.lcd s.ppu coinc
  let allowed := s.lcdcBit 7 && s.ppu.lcdWasOn && !s.ppu.lcdJustOn
  State.requestIf
    { s with
      lcd := { s.lcd with statMode := s.ppu.mode, statCoinc := coinc }
      ppu := { s.ppu with prevMode := s.ppu.mode, prevCoinc := coinc, prevLine := line, lcdJustOn := false } }
    .lcdStat (fire && allowed)

/-! ### OAM scan -/

/-- Whether record k meets the current line: `OAM[4k] ≤ LY + 16 < OAM[4k] + h`, on integers (R1321). -/
def State.spriteOnLine (s : State) (k : Fin 40) : Bool :=
  (s.oamByte k 0).toNat ≤ s.lcd.ly.toNat + 16 &&
    s.lcd.ly.toNat + 16 < (s.oamByte k 0).toNat + s.spriteHeight

/-- `SelectSprites()` (R1321). -/
def State.selectSprites (s : State) : List SpriteSlot :=
  (((List.finRange 40).filter s.spriteOnLine).take s.params.maxSpritesPerLine).map fun k => ⟨k, false⟩

/-- `OamPhase()` with `scan_done` = false, dot 0 of a visible line (R1320). -/
def State.oamScanBegin (s : State) : State :=
  { s with
    ppu := { s.ppu with
      x := 0
      fetchX := 0
      bgFifo := []
      objFifo := []
      winActive := false
      bgRow := s.lcd.scy + s.lcd.ly
      scxLatch := s.lcd.scx
      discard := s.lcd.scx.toNat % 8
      oamLock := true
      sprites := s.selectSprites
      scanDone := true
      wait := 78 } }

/-! ### Tile fetch -/

/-- The colour ids of a tile row, leftmost pixel first: `(hi[7 - i] << 1) | lo[7 - i]` (R1341, R1342). -/
def tileRow (lo hi : Byte) : List Shade :=
  [7, 6, 5, 4, 3, 2, 1, 0].map fun i => twoBits (hi.getLsbD i) (lo.getLsbD i)

/-- `TileAddr(id)`: unsigned from 0x8000 if LCDC.4 = 1, else signed from 0x9000 (R1342). -/
def tileAddr (unsigned : Bool) (id : Byte) : Nat :=
  if unsigned then 0x8000 + 16 * id.toNat else (0x9000 + 16 * signed8 id).toNat

/-- The address of the map byte the fetcher reads (R1341). -/
def State.mapAddr (s : State) : Nat :=
  if s.ppu.winActive then
    (if s.lcdcBit 6 then 0x9C00 else 0x9800) + 32 * (s.ppu.winLine.toNat / 8) + s.ppu.fetchX % 32
  else
    (if s.lcdcBit 3 then 0x9C00 else 0x9800) + 32 * (s.ppu.bgRow.toNat / 8) +
      (s.ppu.scxLatch.toNat / 8 + s.ppu.fetchX) % 32

/-- The row within the tile the fetcher reads (R1341). -/
def State.fetchRow (s : State) : Nat :=
  (if s.ppu.winActive then s.ppu.winLine.toNat else s.ppu.bgRow.toNat) % 8

/-- The 8 entries `FetchTileRow()` pushes (R1341). -/
def State.fetchedTile (s : State) : List BgPixel :=
  let addr := tileAddr (s.lcdcBit 4) (s.mem.read s.mapAddr) + 2 * s.fetchRow
  (tileRow (s.mem.read addr) (s.mem.read (addr + 1))).map fun c => ⟨c, shadeOf s.lcd.bgp c⟩

/-- `FetchTileRow(); fetch_x <- fetch_x + 1`, when the FIFO may push (R1340, R1344). -/
def State.pushTile (s : State) : State :=
  if s.ppu.bgFifo.length ≤ 8 then
    { s with ppu := { s.ppu with bgFifo := s.ppu.bgFifo ++ s.fetchedTile, fetchX := s.ppu.fetchX + 1 } }
  else s

/-! ### Window -/

/-- Whether the window starts at this dot (R1343). -/
def State.windowStarts (s : State) : Bool :=
  !s.ppu.winActive && s.lcdcBit 5 && s.lcd.wy.toNat ≤ s.lcd.ly.toNat && s.lcd.wx.toNat ≤ s.ppu.x + 7

/-- `WindowCheck()` (R1343). -/
def State.windowCheck (s : State) : State :=
  if s.windowStarts then
    { s with
      ppu := { s.ppu with winActive := true, bgFifo := [], fetchX := 0, discard := 7 - s.lcd.wx.toNat } }
  else s

/-! ### Sprites -/

/-- An entry of a row that has left the sprite (R1351, assumption 12). -/
def ObjPixel.blank : ObjPixel := ⟨0, 0, false, true⟩

/-- `SpriteRow(s)`: 8 entries, leftmost first (R1351). -/
def State.spriteRow (s : State) (k : Fin 40) : List ObjPixel :=
  let y := (s.oamByte k 0).toNat
  let t := s.oamByte k 2
  let a := s.oamByte k 3
  let h := s.spriteHeight
  let line := s.lcd.ly.toNat + 16
  if line < y || y + h ≤ line then List.replicate 8 ObjPixel.blank
  else
    let r := line - y
    let r := if a.getLsbD 6 then h - 1 - r else r
    let t := if s.lcdcBit 2 then t &&& 0xFE else t
    let addr := 0x8000 + 16 * t.toNat + 2 * r
    let colours := tileRow (s.mem.read addr) (s.mem.read (addr + 1))
    let colours := if a.getLsbD 5 then colours.reverse else colours
    let palette := if a.getLsbD 4 then s.lcd.obp1 else s.lcd.obp0
    colours.map fun c => ⟨c, shadeOf palette c, a.getLsbD 7, c == 0⟩

/-- `MergeSprite(p)` into the sprite FIFO, position by position from the front (R1352). -/
def mergeSprite : List ObjPixel → List ObjPixel → List ObjPixel
  | [], p => p
  | q, [] => q
  | q :: qs, p :: ps => (if q.transparent then p else q) :: mergeSprite qs ps

/-- Whether a sprite with X byte `sx` is fetched at column x (R1350). -/
def spriteStarts (sx x : Nat) : Bool := sx == x + 8 || (x == 0 && 1 ≤ sx && sx ≤ 7)

/-- The walk of `FetchSprites()` over the selected sprites, in list order (R1350). -/
def State.fetchSpritesFrom (s : State) : List SpriteSlot → List ObjPixel → List SpriteSlot × List ObjPixel
  | [], q => ([], q)
  | k :: ks, q =>
    let sx := (s.oamByte k.index 1).toNat
    if !k.fetched && spriteStarts sx s.ppu.x then
      let rest := s.fetchSpritesFrom ks (mergeSprite q ((s.spriteRow k.index).drop (8 - sx)))
      ({ k with fetched := true } :: rest.1, rest.2)
    else
      let rest := s.fetchSpritesFrom ks q
      (k :: rest.1, rest.2)

/-- `FetchSprites()` (R1350). -/
def State.fetchSprites (s : State) : State :=
  let r := s.fetchSpritesFrom s.ppu.sprites s.ppu.objFifo
  { s with ppu := { s.ppu with sprites := r.1, objFifo := r.2 } }

/-! ### Compositing -/

/-- `Composite(b, o)` (R1355). -/
def State.composite (s : State) (b : BgPixel) (o : Option ObjPixel) : Shade :=
  let b : BgPixel := if s.lcdcBit 0 then b else ⟨0, 0⟩
  match o with
  | none => b.shade
  | some o =>
    if s.lcdcBit 1 && !o.transparent && !(s.params.objPriorityHonoured && o.priority && b.colour != 0) then
      o.shade
    else b.shade

/-- `EndDraw()` (R1323). -/
def State.endDraw (s : State) : State :=
  { s with
    ppu := { s.ppu with
      mode := .hBlank
      wait := 454 - s.ppu.lineDot
      oamLock := false
      vramLock := false
      palLock := false } }

/-- Output of one pixel at column x: fetch sprites, pop both FIFOs, composite, write, advance x
(R1340). -/
def State.outputPixel (s : State) : State :=
  let s1 := s.fetchSprites
  match s1.ppu.bgFifo with
  | [] => s1
  | b :: bs =>
    let shade := s1.composite b s1.ppu.objFifo.head?
    let s2 : State :=
      { s1 with
        fb := s1.fb.write s1.lcd.ly.toNat s1.ppu.x shade
        ppu := { s1.ppu with bgFifo := bs, objFifo := s1.ppu.objFifo.tail, x := s1.ppu.x + 1 } }
    if s2.ppu.x = 160 then s2.endDraw else s2

/-- The pop of a dot, when the FIFO may pop: a discarded pixel, or an output pixel (R1340, R1344,
R1345). -/
def State.popPixel (s : State) : State :=
  if 8 < s.ppu.bgFifo.length then
    if 0 < s.ppu.discard then
      { s with ppu := { s.ppu with bgFifo := s.ppu.bgFifo.tail, discard := s.ppu.discard - 1 } }
    else s.outputPixel
  else s

/-- `DrawDot()`: window check, then the push, then the pop (R1340). -/
def State.drawDot (s : State) : State := s.windowCheck.pushTile.popPixel

/-- `OamPhase()` with `scan_done` = true, dot 79 (R1322). -/
def State.oamScanEnd (s : State) : State :=
  State.drawDot
    { s with ppu := { s.ppu with scanDone := false, mode := .drawPixels, vramLock := true, palLock := true } }

/-- `OamPhase()` (R1320, R1322). -/
def State.oamPhase (s : State) : State := if s.ppu.scanDone then s.oamScanEnd else s.oamScanBegin

/-! ### End of line, V-blank, LCD off and on -/

/-- `HBlankPhase()` (R1324). -/
def State.hBlankPhase (s : State) : State :=
  let ly := s.lcd.ly + 1
  let winLine := if s.ppu.winActive then s.ppu.winLine + 1 else s.ppu.winLine
  let s1 : State :=
    { s with
      lcd := { s.lcd with ly := ly }
      ppu := { s.ppu with oamLock := false, vramLock := false, palLock := false, winLine := winLine } }
  if ly = 144 then
    State.request { s1 with ppu := { s1.ppu with mode := .vBlank, wait := 455 } } .vBlank
  else { s1 with ppu := { s1.ppu with mode := .oamScan } }

/-- `VBlankPhase()` (R1325). -/
def State.vBlankPhase (s : State) : State :=
  let ly := s.lcd.ly + 1
  if ly = 154 then
    { s with lcd := { s.lcd with ly := 0 }, ppu := { s.ppu with winLine := 0, mode := .oamScan } }
  else { s with lcd := { s.lcd with ly := ly }, ppu := { s.ppu with wait := 455 } }

/-- The part of `LcdOffDot()` at the first dot with the LCD off (R1330). -/
def State.lcdTurnOff (s : State) : State :=
  { s with
    lcd := { s.lcd with ly := 0 }
    ppu := { s.ppu with
      lcdWasOn := false
      mode := .hBlank
      lineDot := 0
      wait := 0
      scanDone := false
      winActive := false
      winLine := 0
      oamLock := false
      vramLock := false
      palLock := false } }

/-- `LcdOffDot()` while LCDC.7 = 0 (R1330). -/
def State.lcdOffDot (s : State) : State :=
  (if s.ppu.lcdWasOn then s.lcdTurnOff else s).updateLcdRegs

/-- `LcdOnDot()` (R1331). -/
def State.lcdOnDot (s : State) : State :=
  { s with
    lcd := { s.lcd with ly := 0 }
    ppu := { s.ppu with
      lcdWasOn := true
      lcdJustOn := true
      mode := .oamScan
      lineDot := 0
      wait := 0
      scanDone := false } }

/-- The phase work of a dot with the LCD on: the wait countdown, or the mode's phase function once; then
`line_dot` and `UpdateLcdRegs` (R1300). A line ends when an H-blank or V-blank phase function has run. -/
def State.runDot (s : State) : State :=
  if 0 < s.ppu.wait then
    State.updateLcdRegs { s with ppu := { s.ppu with wait := s.ppu.wait - 1, lineDot := s.ppu.lineDot + 1 } }
  else
    match s.ppu.mode with
    | .oamScan =>
      let t := s.oamPhase
      State.updateLcdRegs { t with ppu := { t.ppu with lineDot := t.ppu.lineDot + 1 } }
    | .drawPixels =>
      let t := s.drawDot
      State.updateLcdRegs { t with ppu := { t.ppu with lineDot := t.ppu.lineDot + 1 } }
    | .hBlank =>
      let t := s.hBlankPhase
      State.updateLcdRegs { t with ppu := { t.ppu with lineDot := 0 } }
    | .vBlank =>
      let t := s.vBlankPhase
      State.updateLcdRegs { t with ppu := { t.ppu with lineDot := 0 } }

/-- `PpuDot()` (R1300, R1330, R1331). -/
def State.ppuDot (s : State) : State :=
  if !s.lcdcBit 7 then s.lcdOffDot
  else if !s.ppu.lcdWasOn then s.lcdOnDot.runDot
  else s.runDot

end Sys2Proof.Machine
end

