-- ==== Sys2Proof/Machine/System.lean ====
section
/-!
DEFINITION. The CPU step and the system step (spec/60_exceptions.md R1200 to R1214, R1472): fetch and decode,
execution, the EI countdown, interrupt dispatch, the halted state, the fault state, and the device time of a
step.
-/

namespace Sys2Proof.Machine

/-! ### Device time -/

/-- `repeat n times`. -/
def repeatTimes : Nat → (State → State) → State → State
  | 0, _, s => s
  | n + 1, f, s => repeatTimes n f (f s)

/-- `TimerDevice.tick()` (R1460, R1461). -/
def State.tickTimer (s : State) : State :=
  match s.params.timerDevice with
  | .default => s.setTimer s.timer.tick
  | .other m => s.setOther .timer (Config.deviceTick .timer m s.others.timer)

/-- `SerialDevice.tick()` (R1460, R1463). -/
def State.tickSerial (s : State) : State :=
  match s.params.serialDevice with
  | .default => s.setSerial s.serial.tick
  | .other m => s.setOther .serial (Config.deviceTick .serial m s.others.serial)

/-- One machine cycle of the timer loop: the timer ticks, then the serial unit; the joypad has no tick (R1213,
R1460). -/
def State.tickTimers (s : State) : State := s.tickTimer.tickSerial

/-- The three loops of `SystemStep` for a step of c machine cycles: c timer ticks, then 4c PPU dots, then
4c DMA dots (R1213). -/
def State.runDevices (s : State) (c : Nat) : State :=
  repeatTimes (4 * c) State.dmaDot (repeatTimes (4 * c) State.ppuDot (repeatTimes c State.tickTimers s))

/-! ### Fetch and decode -/

/-- `Decode()` (30_encoding.md R311): `addr <- pc`, the opcode, its further bytes, the instruction. -/
def State.fetchDecode (s : State) : Instr × State :=
  let s0 : State := { s with ctl := { s.ctl with opcodeAddr := s.regs.pc } }
  let r0 := s0.fetch8
  match formOf r0.1 with
  | .op8 i => (i, r0.2)
  | .imm8 k =>
    let r1 := r0.2.fetch8
    (k r1.1, r1.2)
  | .imm16 k =>
    let r1 := r0.2.fetch8
    let r2 := r1.2.fetch8
    (k (wordOf r2.1 r1.1), r2.2)
  | .cb =>
    let r1 := r0.2.fetch8
    (cbOf r1.1, r1.2)

/-! ### The step -/

/-- The host's new pressed set reaches the joypad device (R1472; R1460, R1462). -/
def State.press (s : State) (p : Buttons) : State :=
  match s.params.joypadDevice with
  | .default => s.setJoypad (s.joypad.press p)
  | .other m => s.setOther .joypad (Config.joypadInput m s.others.joypad p)

/-- The host's input at a step boundary: the next pressed set, when one is waiting (R1472). -/
def State.takeInput (s : State) : State :=
  match s.hostInputs with
  | [] => s
  | p :: rest => { s with hostInputs := rest }.press p

/-- The interrupt to dispatch at the start of a step: IME = 1 and some source pending and enabled
(R1200, R1202, R1203). -/
def State.interruptDue (s : State) : Option IntSource := if s.ctl.ime then s.firstPending else none

/-- Whether a halted CPU stays halted in this step (R1200, R1207). -/
def State.idles (s : State) : Bool := s.ctl.halted && s.pending == 0

/-- A halted CPU wakes: `halted <- false` (R1200, R1207). -/
def State.wake (s : State) : State := { s with ctl := { s.ctl with halted := false } }

/-- The end of a step that executed `i` from state `s` with result `r`: a raise ends it at once, with no
device time (R1208, R1213); else the EI countdown, then the device time of the instruction's cycles. -/
def State.finish (s : State) (i : Instr) (r : Result) : Result :=
  match r with
  | .next t =>
    if t.ctl.fault.isSome then .next t else .next (t.applyEi.runDevices (s.cyclesOf i))
  | .fault e => .fault e
  | .refused e => .refused e

/-- Fetch, decode and execute one instruction (R1200). -/
def State.runInstr (s : State) : Result :=
  let r := s.fetchDecode
  r.2.finish r.1 (exec r.1 r.2)

/-- `SystemStep()`, after the host's input at its boundary (R1200, R1213, R1472). -/
def State.systemStep (s : State) : Result :=
  if s.ctl.fault.isSome then .next s
  else
    let s1 := s.takeInput
    match s1.interruptDue with
    | some i => .next ((s1.dispatch i).runDevices 5)
    | none => if s1.idles then .next (s1.applyEi.runDevices 1) else s1.wake.runInstr

/-! ### Placing an instruction where the next step fetches it -/

/-- Whether an address has a memory cell behind it. -/
def State.storable (s : State) (addr : Word) : Bool :=
  match s.target addr with
  | .rom _ => true
  | .vram _ => true
  | .ram _ => true
  | .oam _ => true
  | .io _ => false
  | .ie => false
  | .openBus => false

/-- Put a byte into the memory cell an address reaches, ROM too, so that a fetch reads it: a lock before
it is opened. -/
def State.placeByte (s : State) (addr : Word) (v : Byte) : State :=
  match s.target addr with
  | .rom k => s.setCell k v
  | .vram k => { s with ppu := { s.ppu with vramLock := false } }.setCell k v
  | .ram k => s.setCell k v
  | .oam k => { s with ppu := { s.ppu with oamLock := false } }.setCell k v
  | .io _ => s
  | .ie => s
  | .openBus => s

/-- Put bytes at successive addresses. -/
def State.placeBytes (s : State) (addr : Word) : List Byte → State
  | [] => s
  | v :: vs => (s.placeByte addr v).placeBytes (addr + 1) vs

/-- The state made one whose next step fetches: no fault, not halted, no refetch, no input waiting, no
interrupt due; and pc at an address with three memory cells behind it, else at the entry point. A state
that already fetches is left as it is. -/
def State.readyToFetch (s : State) : State :=
  let s1 : State :=
    { s with
      hostInputs := []
      ctl := { s.ctl with
        fault := none
        halted := false
        haltSkip := false
        ime := s.ctl.ime && s.firstPending.isNone } }
  if s1.storable s1.regs.pc && s1.storable (s1.regs.pc + 1) && s1.storable (s1.regs.pc + 2) then s1
  else s1.setPc 0x0100

end Sys2Proof.Machine
end

