-- ==== Sys2Proof/Machine/Step.lean ====
section
/-!
DEFINITION. One step of the machine, the system step of spec/60_exceptions.md R1213; and the state with an
instruction where that step fetches. Everything they do is in System.lean.
-/

namespace Sys2Proof.Machine

/-- One step: the host's input at the boundary (R1472), then `SystemStep` (R1213). -/
def step (s : State) : Host.Outcome State Fault Refusal := s.systemStep

/-- `s` with the instruction of these bits (numbered as the opcode table numbers them) where the next
step fetches. On a state that fetches from memory it changes three cells at pc and nothing else; from
reset it stands for the host's load of `CartridgeImage` (R1470; assumption 9). -/
def State.withFetchWord (s : State) (nbits w : Nat) : State :=
  let s1 := s.readyToFetch
  s1.placeBytes s1.regs.pc (tableBytes nbits w)

end Sys2Proof.Machine
end

