-- ==== Sys2Proof/Machine/Effects.lean ====
section
/-!
DEFINITION. The vocabulary of statements about what an instruction does and leaves alone: what stays the
same from a state s to a state t, which addresses a store can change, and the arithmetic of spec/41_arithmetic.md
and spec/42_logic.md as relations on registers and flags. No step uses it.
-/

namespace Sys2Proof.Machine

/-! ### What stays the same -/

/-- All of memory is as before, the cells behind a closed lock too, and every address reads as before. -/
def State.sameMemory (s t : State) : Prop := t.mem = s.mem ∧ ∀ a : Word, t.memRead a = s.memRead a

/-- Every 8-bit register but the listed ones is as before. -/
def State.sameRegsBut (s t : State) (dests : List Reg8) : Prop := ∀ r : Reg8, r ∉ dests → t.reg r = s.reg r

/-- IME, `ime_delay`, `halted`, `halt_skip`, `fault`, IF and IE are as before. -/
def State.sameControl (s t : State) : Prop :=
  t.ctl = s.ctl ∧ t.intFlag = s.intFlag ∧ t.intEnable = s.intEnable

/-- The LCD bank, the PPU, OAM DMA, the default devices and those that replace them, the framebuffer, the
parameters and the model's own two fields are as before. -/
def State.sameUnits (s t : State) : Prop :=
  t.lcd = s.lcd ∧ t.ppu = s.ppu ∧ t.dma = s.dma ∧ t.timer = s.timer ∧ t.joypad = s.joypad ∧
    t.serial = s.serial ∧ t.others = s.others ∧ t.fb = s.fb ∧ t.params = s.params ∧
    t.hostInputs = s.hostInputs ∧ t.draws = s.draws

/-- Everything outside the registers is as before. -/
def State.sameOutsideRegs (s t : State) : Prop := s.sameControl t ∧ s.sameUnits t ∧ s.sameMemory t

/-- The two halves of a register pair; SP has none. -/
def Reg16.halves (p : Reg16) : List Reg8 :=
  match p with
  | .bc => [.b, .c]
  | .de => [.d, .e]
  | .hl => [.h, .l]
  | .sp => []

/-- The registers a memory operand `r16mem(i)` steps after the access (R107). -/
def RegMem.stepped (m : RegMem) : List Reg8 :=
  match m with
  | .bc => []
  | .de => []
  | .hlInc => [.h, .l]
  | .hlDec => [.h, .l]

/-- HL after an access through `r16mem(i)` (R107). -/
def State.hlAfter (s : State) (m : RegMem) : Word :=
  match m with
  | .bc => s.hl
  | .de => s.hl
  | .hlInc => s.hl + 1
  | .hlDec => s.hl - 1

/-! ### What a read can change -/

/-- The state after the bytes at n successive addresses have been read, in order. With the default devices it is
`s` itself: only a register of a device that replaces one has a read effect (R218). -/
def State.afterReads (s : State) (a : Word) : Nat → State
  | 0 => s
  | n + 1 => (s.afterRead a).afterReads (a + 1) n

/-- Everything outside the registers is as in u, the state after the reads the instruction makes; so as in s with
the default devices (R218). -/
def State.sameAfterReads (s u t : State) : Prop :=
  u.sameOutsideRegs t ∧ ((∀ d : DeviceKind, s.params.device d = .default) → s.sameOutsideRegs t)

/-! ### What a store can change -/

/-- Who owns an I/O register (R209). -/
inductive IoOwner where
  | joypad
  | serial
  | timer
  | interrupts
  | lcd
deriving DecidableEq, Repr

/-- The owner column of R209. -/
def IoReg.owner (r : IoReg) : IoOwner :=
  match r with
  | .p1 => .joypad
  | .sb => .serial
  | .sc => .serial
  | .div => .timer
  | .tima => .timer
  | .tma => .timer
  | .tac => .timer
  | .intFlag => .interrupts
  | .lcdc => .lcd
  | .stat => .lcd
  | .scy => .lcd
  | .scx => .lcd
  | .ly => .lcd
  | .lyc => .lcd
  | .dma => .lcd
  | .bgp => .lcd
  | .obp0 => .lcd
  | .obp1 => .lcd
  | .wy => .lcd
  | .wx => .lcd

/-- Whether a store to `x` can change what is read at `y`, another target: a write of DIV or TAC can
increment TIMA and request the timer interrupt (R1461); a write of the joypad select can request the joypad
interrupt (R1462); a write to a device that replaces a default one can change what that device's other registers
read, and can request (R1460). No other store reaches past its own target. -/
def State.alsoChanges (s : State) (x y : Target) : Prop :=
  ((x = .io .div ∨ x = .io .tac) ∧ (y = .io .tima ∨ y = .io .intFlag)) ∨ (x = .io .p1 ∧ y = .io .intFlag) ∨
    ∃ (r : IoReg) (p : Port), x = .io r ∧ s.port r = some p ∧
      (y = .io .intFlag ∨ ∃ (q : IoReg) (p' : Port), y = .io q ∧ s.port q = some p' ∧ p'.kind = p.kind)

/-- The memory cell a store to a target can change. ROM takes no store (R202). -/
def Target.cell (x : Target) : Option Nat :=
  match x with
  | .rom _ => none
  | .vram k => some k
  | .ram k => some k
  | .oam k => some k
  | .io _ => none
  | .ie => none
  | .openBus => none

/-- No store of the list goes to an I/O register of the owner. -/
def State.storesMiss (s : State) (stored : List Word) (o : IoOwner) : Prop :=
  ∀ a ∈ stored, ∀ r : IoReg, s.target a = .io r → r.owner ≠ o

/-- No store of the list goes to a register of a device of this kind that replaces the default one. -/
def State.storesMissPort (s : State) (stored : List Word) (d : DeviceKind) : Prop :=
  ∀ a ∈ stored, ∀ (r : IoReg) (p : Port), s.target a = .io r → s.port r = some p → p.kind ≠ d

/-- Every cell of memory is as before but the stored ones, behind a lock too; and every address reads as before,
but those that reach what a stored address reaches (its own byte, which
an echo address shares, R206), and those a device side effect of the store reaches. -/
def State.sameMemoryBut (s t : State) (stored : List Word) : Prop :=
  (∀ k : Nat, (∀ a ∈ stored, (s.target a).cell ≠ some k) → t.mem.read k = s.mem.read k) ∧
  ∀ b : Word, (∀ a ∈ stored, s.target b ≠ s.target a ∧ ¬s.alsoChanges (s.target a) (s.target b)) →
    t.memRead b = s.memRead b

/-- The frame of stores at the listed addresses: control, the PPU, the framebuffer, the parameters and the
model's own fields are as before; IF, IE and each unit change only where a store reaches a register of theirs
(IF also where a device's registers are written), a default device only where it is fitted; every other byte is
as before. -/
def State.storeFrame (s t : State) (stored : List Word) : Prop :=
  t.ctl = s.ctl ∧ t.ppu = s.ppu ∧ t.fb = s.fb ∧ t.params = s.params ∧ t.hostInputs = s.hostInputs ∧
    t.draws = s.draws ∧
    (s.storesMiss stored .lcd → t.lcd = s.lcd ∧ t.dma = s.dma) ∧
    (s.storesMiss stored .timer ∨ s.params.timerDevice ≠ .default → t.timer = s.timer) ∧
    (s.storesMiss stored .joypad ∨ s.params.joypadDevice ≠ .default → t.joypad = s.joypad) ∧
    (s.storesMiss stored .serial ∨ s.params.serialDevice ≠ .default → t.serial = s.serial) ∧
    (∀ d : DeviceKind, s.storesMissPort stored d → t.others.of d = s.others.of d) ∧
    (s.storesMiss stored .interrupts → s.storesMiss stored .timer → s.storesMiss stored .joypad →
      (s.storesMiss stored .serial ∨ s.params.serialDevice = .default) → t.intFlag = s.intFlag) ∧
    ((∀ a ∈ stored, s.target a ≠ .ie) → t.intEnable = s.intEnable) ∧
    s.sameMemoryBut t stored

/-! ### Results on A and the flags -/

/-- Z, N, H and C of t are these. -/
def State.flagsAre (t : State) (z n h c : Bool) : Prop :=
  t.flagZ = z ∧ t.flagN = n ∧ t.flagH = h ∧ t.flagC = c

/-- A of t is A of s plus v plus the carry, with the flags of `Add8` (R501). -/
def State.isSum (s t : State) (v : Byte) (cin : Bool) : Prop :=
  let sum := (s.reg .a).toNat + v.toNat + boolNat cin
  (t.reg .a).toNat = sum % 256 ∧
    t.flagsAre (decide (sum % 256 = 0)) false
      (decide ((s.reg .a).toNat % 16 + v.toNat % 16 + boolNat cin > 15)) (decide (sum > 255))

/-- The flags of `Sub8` (R502) for A of s minus v minus the borrow. -/
def State.isDifferenceFlags (s t : State) (v : Byte) (cin : Bool) : Prop :=
  let a := (s.reg .a).toNat
  t.flagsAre (decide ((a + 512 - v.toNat - boolNat cin) % 256 = 0)) true
    (decide (a % 16 < v.toNat % 16 + boolNat cin)) (decide (a < v.toNat + boolNat cin))

/-- A of t is A of s minus v minus the borrow, with the flags of `Sub8` (R502). -/
def State.isDifference (s t : State) (v : Byte) (cin : Bool) : Prop :=
  (t.reg .a).toNat = ((s.reg .a).toNat + 512 - v.toNat - boolNat cin) % 256 ∧ s.isDifferenceFlags t v cin

/-- A of t is v, with the flags of a logic operation (R600 to R602): Z from v, N = 0, H, C = 0. -/
def State.isLogic (t : State) (v : Byte) (h : Bool) : Prop :=
  t.reg .a = v ∧ t.flagsAre (v == 0) false h false

/-- The value a rotate or shift makes, bit by bit: bit i of the result (R700 to R707). -/
def ShiftOp.bitOf (op : ShiftOp) (v : Byte) (cin : Bool) (i : Nat) : Bool :=
  match op with
  | .rlc => if i = 0 then v.getLsbD 7 else v.getLsbD (i - 1)
  | .rrc => if i = 7 then v.getLsbD 0 else v.getLsbD (i + 1)
  | .rl => if i = 0 then cin else v.getLsbD (i - 1)
  | .rr => if i = 7 then cin else v.getLsbD (i + 1)
  | .sla => if i = 0 then false else v.getLsbD (i - 1)
  | .sra => if i = 7 then v.getLsbD 7 else v.getLsbD (i + 1)
  | .swap => v.getLsbD ((i + 4) % 8)
  | .srl => if i = 7 then false else v.getLsbD (i + 1)

/-- The bit a rotate or shift puts in C (R700 to R707). -/
def ShiftOp.carryOf (op : ShiftOp) (v : Byte) : Bool :=
  match op with
  | .rlc => v.getLsbD 7
  | .rrc => v.getLsbD 0
  | .rl => v.getLsbD 7
  | .rr => v.getLsbD 0
  | .sla => v.getLsbD 7
  | .sra => v.getLsbD 0
  | .swap => false
  | .srl => v.getLsbD 0

/-- w is what the operation makes of v and the carry. -/
def ShiftOp.makes (op : ShiftOp) (v : Byte) (cin : Bool) (w : Byte) : Prop :=
  ∀ i : Nat, i < 8 → w.getLsbD i = op.bitOf v cin i

/-- The two BCD digits of a number below 100. -/
def bcd (n : Nat) : Byte := BitVec.ofNat 8 (16 * (n / 10) + n % 10)

end Sys2Proof.Machine
end

