-- ==== Sys2Proof/Machine/Invariant.lean ====
section
/-!
DEFINITION. The machine invariant: what holds at reset and after every step of spec/60_exceptions.md R1213,
gathered from spec/10_state.md R102, R112, R113, R119, R121, R127 to R129, spec/20_memory.md R213 and
spec/60_exceptions.md R1301, R1344, R1352, R1356, R1402.
-/

namespace Sys2Proof.Machine

/-- The invariant of the PPU and its LCD bank. -/
structure PpuInv (l : Lcd) (p : Ppu) : Prop where
  /-- LY is 144..153 in V-blank and 0..143 in every other mode (R121, R1301) -/
  ly_vBlank : p.mode = .vBlank → 144 ≤ l.ly.toNat ∧ l.ly.toNat ≤ 153
  ly_visible : p.mode ≠ .vBlank → l.ly.toNat < 144
  /-- STAT shows the PPU's mode (R119, R1310) -/
  statMode : l.statMode = p.mode
  /-- the background FIFO's capacity (R1344) -/
  bgFifo : p.bgFifo.length ≤ 16
  /-- the sprite FIFO holds at most 8 entries (R1344) -/
  objFifo : p.objFifo.length ≤ 8
  /-- `discard` is 0..7 (R127) -/
  discard : p.discard ≤ 7
  /-- a scan is under way only in mode 2 (R1320, R1322) -/
  scanDone : p.scanDone = true → p.mode = .oamScan
  /-- the output column, while pixels may be output (R127, R1340) -/
  column : p.scanDone = true ∨ p.mode = .drawPixels → p.x < 160
  /-- OAM is locked from dot 0 of a visible line to the end of mode 3 (R213) -/
  oamLock : p.oamLock = (p.scanDone || p.mode == .drawPixels)
  /-- VRAM and the palettes are locked in mode 3 (R213) -/
  vramLock : p.vramLock = (p.mode == .drawPixels)
  palLock : p.palLock = (p.mode == .drawPixels)
  /-- with the LCD off the mode is 0 (R1330) -/
  lcdOff : p.lcdWasOn = false → p.mode = .hBlank

/-- The machine invariant. -/
structure State.Inv (s : State) : Prop where
  /-- memory is in canonical form -/
  mem : s.mem.wf
  /-- the framebuffer is in canonical form and has 144 rows of 160 entries (R1356) -/
  fb : s.fb.wf ∧ ∀ c ∈ s.fb, c.1 < 23040
  /-- the low nibble of F is zero (R102) -/
  f : s.regs.f &&& 0x0F = 0
  /-- `ime_delay` is 0..2 (R112) -/
  imeDelay : s.ctl.imeDelay ≤ 2
  /-- `halt_skip` exists only under `HaltBug` (R113) -/
  haltSkip : s.ctl.haltSkip = true → s.params.haltBug = true
  /-- `dma_index` is 0..160, and a running transfer has bytes left (R128, R1402) -/
  dmaIndex : s.dma.index ≤ 160
  dmaActive : s.dma.active = true → s.dma.index < 160
  /-- `dma_sub` is 0..3 (R128) -/
  dmaSub : s.dma.sub < 4
  /-- a serial transfer has at most 1024 machine cycles left (R1463) -/
  serial : s.serial.left ≤ 1024
  /-- the PPU's own -/
  ppu : PpuInv s.lcd s.ppu

end Sys2Proof.Machine
end

