-- ==== Sys2Proof/Machine/Shapes.lean ====
section
/-!
DEFINITION. The instructions by their operands: for each family of spec/10_state.md R104 to R108 and
spec/30_encoding.md R305 to R308, the instruction an operand, a condition or an operation names. Statements
about a family are written over these.
-/

namespace Sys2Proof

open Sys2Proof.Machine

/-- `LD r, r'` (R401). -/
def Instr.loadReg (dst r : Reg8) : Instr :=
  match dst, r with
  | .b, .b => .ldBB
  | .b, .c => .ldBC
  | .b, .d => .ldBD
  | .b, .e => .ldBE
  | .b, .h => .ldBH
  | .b, .l => .ldBL
  | .b, .a => .ldBA
  | .c, .b => .ldCB
  | .c, .c => .ldCC
  | .c, .d => .ldCD
  | .c, .e => .ldCE
  | .c, .h => .ldCH
  | .c, .l => .ldCL
  | .c, .a => .ldCA
  | .d, .b => .ldDB
  | .d, .c => .ldDC
  | .d, .d => .ldDD
  | .d, .e => .ldDE
  | .d, .h => .ldDH
  | .d, .l => .ldDL
  | .d, .a => .ldDA
  | .e, .b => .ldEB
  | .e, .c => .ldEC
  | .e, .d => .ldED
  | .e, .e => .ldEE
  | .e, .h => .ldEH
  | .e, .l => .ldEL
  | .e, .a => .ldEA
  | .h, .b => .ldHB
  | .h, .c => .ldHC
  | .h, .d => .ldHD
  | .h, .e => .ldHE
  | .h, .h => .ldHH
  | .h, .l => .ldHL
  | .h, .a => .ldHA
  | .l, .b => .ldLB
  | .l, .c => .ldLC
  | .l, .d => .ldLD
  | .l, .e => .ldLE
  | .l, .h => .ldLH
  | .l, .l => .ldLL
  | .l, .a => .ldLA
  | .a, .b => .ldAB
  | .a, .c => .ldAC
  | .a, .d => .ldAD
  | .a, .e => .ldAE
  | .a, .h => .ldAH
  | .a, .l => .ldAL
  | .a, .a => .ldAA

/-- `LD r, (HL)` (R402). -/
def Instr.loadHl (dst : Reg8) : Instr :=
  match dst with
  | .b => .ldBIndHl
  | .c => .ldCIndHl
  | .d => .ldDIndHl
  | .e => .ldEIndHl
  | .h => .ldHIndHl
  | .l => .ldLIndHl
  | .a => .ldAIndHl

/-- `LD (HL), r` (R403). -/
def Instr.storeHl (r : Reg8) : Instr :=
  match r with
  | .b => .ldIndHlB
  | .c => .ldIndHlC
  | .d => .ldIndHlD
  | .e => .ldIndHlE
  | .h => .ldIndHlH
  | .l => .ldIndHlL
  | .a => .ldIndHlA

/-- `LD r, n8` (R404). -/
def Instr.loadImm (dst : Reg8) (n : Byte) : Instr :=
  match dst with
  | .b => .ldBN8 n
  | .c => .ldCN8 n
  | .d => .ldDN8 n
  | .e => .ldEN8 n
  | .h => .ldHN8 n
  | .l => .ldLN8 n
  | .a => .ldAN8 n

/-- `LD A, (rr)` (R406, R407, R410, R411). -/
def Instr.loadA (m : RegMem) : Instr :=
  match m with
  | .bc => .ldAIndBc
  | .de => .ldAIndDe
  | .hlInc => .ldAIndHlInc
  | .hlDec => .ldAIndHlDec

/-- `LD (rr), A` (R408, R409, R412, R413). -/
def Instr.storeA (m : RegMem) : Instr :=
  match m with
  | .bc => .ldIndBcA
  | .de => .ldIndDeA
  | .hlInc => .ldIndHlIncA
  | .hlDec => .ldIndHlDecA

/-- `LD rr, n16` (R420). -/
def Instr.loadPair (p : Reg16) (n : Word) : Instr :=
  match p with
  | .bc => .ldBcN16 n
  | .de => .ldDeN16 n
  | .hl => .ldHlN16 n
  | .sp => .ldSpN16 n

/-- The operation y of block 2 on A and `r8(z)` (R307). -/
def Instr.aluOf (op : AluOp) (o : Operand8) : Instr :=
  match op, o with
  | .add, .reg .b => .addAB
  | .add, .reg .c => .addAC
  | .add, .reg .d => .addAD
  | .add, .reg .e => .addAE
  | .add, .reg .h => .addAH
  | .add, .reg .l => .addAL
  | .add, .reg .a => .addAA
  | .adc, .reg .b => .adcAB
  | .adc, .reg .c => .adcAC
  | .adc, .reg .d => .adcAD
  | .adc, .reg .e => .adcAE
  | .adc, .reg .h => .adcAH
  | .adc, .reg .l => .adcAL
  | .adc, .reg .a => .adcAA
  | .sub, .reg .b => .subAB
  | .sub, .reg .c => .subAC
  | .sub, .reg .d => .subAD
  | .sub, .reg .e => .subAE
  | .sub, .reg .h => .subAH
  | .sub, .reg .l => .subAL
  | .sub, .reg .a => .subAA
  | .sbc, .reg .b => .sbcAB
  | .sbc, .reg .c => .sbcAC
  | .sbc, .reg .d => .sbcAD
  | .sbc, .reg .e => .sbcAE
  | .sbc, .reg .h => .sbcAH
  | .sbc, .reg .l => .sbcAL
  | .sbc, .reg .a => .sbcAA
  | .and, .reg .b => .andAB
  | .and, .reg .c => .andAC
  | .and, .reg .d => .andAD
  | .and, .reg .e => .andAE
  | .and, .reg .h => .andAH
  | .and, .reg .l => .andAL
  | .and, .reg .a => .andAA
  | .xor, .reg .b => .xorAB
  | .xor, .reg .c => .xorAC
  | .xor, .reg .d => .xorAD
  | .xor, .reg .e => .xorAE
  | .xor, .reg .h => .xorAH
  | .xor, .reg .l => .xorAL
  | .xor, .reg .a => .xorAA
  | .or, .reg .b => .orAB
  | .or, .reg .c => .orAC
  | .or, .reg .d => .orAD
  | .or, .reg .e => .orAE
  | .or, .reg .h => .orAH
  | .or, .reg .l => .orAL
  | .or, .reg .a => .orAA
  | .cp, .reg .b => .cpAB
  | .cp, .reg .c => .cpAC
  | .cp, .reg .d => .cpAD
  | .cp, .reg .e => .cpAE
  | .cp, .reg .h => .cpAH
  | .cp, .reg .l => .cpAL
  | .cp, .reg .a => .cpAA
  | .add, .indHl => .addAIndHl
  | .adc, .indHl => .adcAIndHl
  | .sub, .indHl => .subAIndHl
  | .sbc, .indHl => .sbcAIndHl
  | .and, .indHl => .andAIndHl
  | .xor, .indHl => .xorAIndHl
  | .or, .indHl => .orAIndHl
  | .cp, .indHl => .cpAIndHl

/-- The operation y of block 3 on A and n8 (R307). -/
def Instr.aluImm (op : AluOp) (n : Byte) : Instr :=
  match op with
  | .add => .addAN8 n
  | .adc => .adcAN8 n
  | .sub => .subAN8 n
  | .sbc => .sbcAN8 n
  | .and => .andAN8 n
  | .xor => .xorAN8 n
  | .or => .orAN8 n
  | .cp => .cpAN8 n

/-- `INC r`, `INC (HL)` (R525, R526). -/
def Instr.incOf (o : Operand8) : Instr :=
  match o with
  | .reg .b => .incB
  | .reg .c => .incC
  | .reg .d => .incD
  | .reg .e => .incE
  | .reg .h => .incH
  | .reg .l => .incL
  | .reg .a => .incA
  | .indHl => .incIndHl

/-- `DEC r`, `DEC (HL)` (R527, R528). -/
def Instr.decOf (o : Operand8) : Instr :=
  match o with
  | .reg .b => .decB
  | .reg .c => .decC
  | .reg .d => .decD
  | .reg .e => .decE
  | .reg .h => .decH
  | .reg .l => .decL
  | .reg .a => .decA
  | .indHl => .decIndHl

/-- `INC rr` (R529). -/
def Instr.incPair (p : Reg16) : Instr :=
  match p with
  | .bc => .incBc
  | .de => .incDe
  | .hl => .incHl
  | .sp => .incSp

/-- `DEC rr` (R530). -/
def Instr.decPair (p : Reg16) : Instr :=
  match p with
  | .bc => .decBc
  | .de => .decDe
  | .hl => .decHl
  | .sp => .decSp

/-- `ADD HL, rr` (R531). -/
def Instr.addHl (p : Reg16) : Instr :=
  match p with
  | .bc => .addHlBc
  | .de => .addHlDe
  | .hl => .addHlHl
  | .sp => .addHlSp

/-- `JP cc, a16` (R911). -/
def Instr.jumpIf (k : Cond) (a : Word) : Instr :=
  match k with
  | .nz => .jpNzA16 a
  | .z => .jpZA16 a
  | .nc => .jpNcA16 a
  | .c => .jpCA16 a

/-- `JR cc, e8` (R914). -/
def Instr.jumpRelIf (k : Cond) (e : Byte) : Instr :=
  match k with
  | .nz => .jrNzE8 e
  | .z => .jrZE8 e
  | .nc => .jrNcE8 e
  | .c => .jrCE8 e

/-- `CALL cc, a16` (R916). -/
def Instr.callIf (k : Cond) (a : Word) : Instr :=
  match k with
  | .nz => .callNzA16 a
  | .z => .callZA16 a
  | .nc => .callNcA16 a
  | .c => .callCA16 a

/-- `RET cc` (R918). -/
def Instr.retIf (k : Cond) : Instr :=
  match k with
  | .nz => .retNz
  | .z => .retZ
  | .nc => .retNc
  | .c => .retC

/-- `RST` of the field y: the target is `8 × y` (R302, R920). -/
def Instr.rst (y : BitVec 3) : Instr :=
  match y with
  | 0 => .rst00
  | 1 => .rst08
  | 2 => .rst10
  | 3 => .rst18
  | 4 => .rst20
  | 5 => .rst28
  | 6 => .rst30
  | 7 => .rst38

/-- `PUSH rr`, `PUSH AF` (R1010, R1011). -/
def Instr.push (p : RegStk) : Instr :=
  match p with
  | .bc => .pushBc
  | .de => .pushDe
  | .hl => .pushHl
  | .af => .pushAf

/-- `POP rr`, `POP AF` (R1012, R1013). -/
def Instr.pop (p : RegStk) : Instr :=
  match p with
  | .bc => .popBc
  | .de => .popDe
  | .hl => .popHl
  | .af => .popAf

/-- The instruction of the CB space with these fields (R301, R308): x = 0 a rotate or shift, 1 BIT, 2 RES,
3 SET; y the operation or the bit; z the operand `r8(z)`. The 256 words are the 256 rows `rlcB` to
`set7A`. -/
def Instr.cbField (x : BitVec 2) (y z : BitVec 3) : Instr := cbOf (x ++ y ++ z : BitVec 8)

/-- The undefined opcodes and the instructions they stand for (R309, R1118). -/
def illegalRows : List (Byte × Instr) :=
  [(0xD3, .illegalD3), (0xDB, .illegalDB), (0xDD, .illegalDD), (0xE3, .illegalE3), (0xE4, .illegalE4),
   (0xEB, .illegalEB)] ++
  [(0xEC, .illegalEC), (0xED, .illegalED), (0xF4, .illegalF4), (0xFC, .illegalFC), (0xFD, .illegalFD)]

end Sys2Proof
end

