-- ==== Sys2Proof/Machine/Launch.lean ====
section
/-!
DEFINITION. Session start and launches (spec/60_exceptions.md R1470, spec/70_reset_and_hazards.md R1500,
R1501, R1521): the reset state for every choice of the launch parameters of spec/00_scope.md R7.
-/

namespace Sys2Proof.Machine

/-- ROM from address `a` on: the image's bytes verbatim, nothing past 0x7FFF, 0xFF past its end (R202). -/
def romFrom : Nat → List Byte → Memory
  | _, [] => []
  | a, v :: vs =>
    if 0x8000 ≤ a then []
    else if v = Memory.unlisted a then romFrom (a + 1) vs
    else (a, v) :: romFrom (a + 1) vs

/-- The memory that holds `CartridgeImage` in ROM (R202, R1470). -/
def romOf (image : List Byte) : Memory := romFrom 0 image

/-- Put one cell of `InitMem` into memory: RAM and OAM only (R129, R1501). -/
def initCell (m : Memory) (c : Host.Cell) : Memory :=
  if 0x8000 ≤ c.1 ∧ Memory.backed c.1 = true then m.write c.1 c.2 else m

/-- What a launch chooses (R7, R1501, R1521): the parameters, `ResetRegs`, `CartridgeImage`, and the
values the reset table leaves unspecified: `InitMem`, OBP0, OBP1 and the framebuffer. The last two fields are the
draws of the coming run, in the model's own form. -/
structure Launch where
  params : Params
  regs : Regs
  image : List Byte
  initMem : List Host.Cell
  obp0 : Byte
  obp1 : Byte
  fb : Framebuffer
  /-- the host's pressed sets of the coming step boundaries (R1472), any list of them; that they are chosen at the
  launch and held as a queue is the model's choice (assumption 4) -/
  hostInputs : List Buttons
  /-- the count the unspecified bytes of OAM DMA are drawn by, any number (R1403; assumption 5) -/
  draws : Nat
deriving DecidableEq, Repr

/-- The launch of State.reset. Where the spec leaves a value open its choice is the model's: no host input to come
(assumption 4), no draw made (assumption 5), OBP0 and OBP1 (assumption 6), RAM and framebuffer (assumption 7), the
empty image (assumption 9). -/
def Launch.defaults : Launch where
  params := Params.defaults
  regs := Regs.reset
  image := []
  initMem := []
  obp0 := 0x00
  obp1 := 0x00
  fb := []
  hostInputs := []
  draws := 0

/-- The state after the session reset of a launch (R1500, R1501); F drops its low nibble (R102). `opcodeAddr` is the
model's own (assumption 3), and so are the two draws the launch gives (assumptions 4, 5). -/
def Launch.reset (l : Launch) : State :=
  { State.reset with
    params := l.params
    regs := { l.regs with f := l.regs.f &&& 0xF0 }
    ctl := { Control.reset with opcodeAddr := l.regs.pc }
    lcd := { Lcd.reset with obp0 := l.obp0, obp1 := l.obp1 }
    others := OtherDevices.reset l.params
    mem := l.initMem.foldl initCell (romOf l.image)
    fb := l.fb
    hostInputs := l.hostInputs
    draws := l.draws }

end Sys2Proof.Machine
end

