-- ==== Sys2Proof/Safety.lean ====
section
/-!
DEFINITION. What counts as a safe run and as the end of one (spec/60_exceptions.md R1208,
spec/70_reset_and_hazards.md R1520, R1521).
-/

namespace Sys2Proof.Machine

/-- The machine has not faulted: "a faulted state is never an end: it refutes the run" (R1208, R1520). -/
def State.safe (s : State) : Bool := s.ctl.fault.isNone

/-- The first end condition (R1520): running at `EndPc`, which holds `18 FE`. -/
def State.endsAt (endPc : Word) (s : State) : Bool :=
  s.safe && !s.ctl.halted && s.regs.pc == endPc && s.memRead endPc == 0x18 && s.memRead (endPc + 1) == 0xFE

/-- The second end condition (R1520): halted with IME = 0 and no source enabled, so that none can wake
the CPU. -/
def State.endsHalted (s : State) : Bool :=
  s.safe && s.ctl.halted && !s.ctl.ime && s.intEnable.extractLsb' 0 5 == (0 : BitVec 5)

/-- The end of a run of a launch with the parameter `EndPc` (R1520). -/
def State.runEnds (endPc : Word) (s : State) : Bool := s.endsAt endPc || s.endsHalted

/-- A clean launch (R1521): the reset state of R1501, in which the memories hold the values the launch
names. The pressed sets the host has still to give are no part of that reset state: any list of them may come, R1472's
draws, and that the launch holds them as a queue is the model's choice (assumption 4). -/
def State.cleanLaunch (l : Launch) (s : State) : Bool := decide (s = l.reset)

end Sys2Proof.Machine
end

