-- ==== Sys2Proof/Certificates/Slice0/Obligations.lean ====
section
/-!
DEFINITION. The statements for the provers. OBLIGATIONS.json gives each its title, its rules and its kind.
An instruction is executed after it has been fetched (spec/10_state.md R109), so pc of the state it starts
from is the address after it.
-/

section

open Sys2Proof Sys2Proof.Machine

/-! ### Reset -/

/-- R1501, every row of its table that gives a value, for every launch with the default `ResetRegs`. OBP0,
OBP1, the RAMs and the framebuffer are unspecified there and are arguments of the launch, as are the host's inputs to
come and the count of draws, which are the model's own (assumptions 4, 5) and no row of the table. -/
def Obligations.ResetTable : Prop :=
  ∀ l : Launch, l.regs = Regs.reset →
    let s := l.reset
    s.regs = ⟨0x01, 0xB0, 0x00, 0x13, 0x00, 0xD8, 0x01, 0x4D, 0xFFFE, 0x0100⟩ ∧
    s.ctl.ime = false ∧ s.ctl.imeDelay = 0 ∧ s.ctl.halted = false ∧ s.ctl.haltSkip = false ∧
    s.ctl.fault = none ∧ s.intFlag = 0 ∧ s.readIf = 0xE0 ∧ s.intEnable = 0 ∧
    s.lcd.lcdc = 0x91 ∧ s.lcd.statEnable = 0 ∧ s.lcd.stat = 0x86 ∧ s.lcd.scy = 0 ∧ s.lcd.scx = 0 ∧
    s.lcd.ly = 0 ∧ s.lcd.lyc = 0 ∧ s.lcd.dmaReg = 0xFF ∧ s.lcd.bgp = 0xFC ∧ s.lcd.wy = 0 ∧ s.lcd.wx = 0 ∧
    s.ppu.mode = .oamScan ∧ s.ppu.wait = 0 ∧ s.ppu.lineDot = 0 ∧ s.ppu.scanDone = false ∧
    s.ppu.sprites = [] ∧ s.ppu.bgFifo = [] ∧ s.ppu.objFifo = [] ∧ s.ppu.x = 0 ∧ s.ppu.fetchX = 0 ∧
    s.ppu.discard = 0 ∧ s.ppu.bgRow = 0 ∧ s.ppu.scxLatch = 0 ∧ s.ppu.winActive = false ∧
    s.ppu.winLine = 0 ∧ s.ppu.lcdWasOn = true ∧ s.ppu.prevMode = .oamScan ∧ s.ppu.prevCoinc = true ∧
    s.ppu.prevLine = false ∧ s.ppu.lcdJustOn = false ∧
    s.ppu.oamLock = false ∧ s.ppu.vramLock = false ∧ s.ppu.palLock = false ∧
    s.dma = ⟨false, 0, 0, 0⟩ ∧
    (∀ a : Nat, a < 0x8000 → s.mem.read a = l.image.getD a 0xFF) ∧
    s.timer = ⟨0, 0, 0, 0⟩ ∧ s.joypad.sel = 0b11 ∧ s.joypad.pressed = Buttons.none ∧
    s.serial = ⟨0x00, false, false, 0⟩

/-- The invariant holds at State.reset. -/
def Obligations.ResetInvariant : Prop := State.reset.Inv

/-! ### Invariants and whole-machine rules -/

/-- Every step from a state with the invariant gives a state with the invariant. -/
def Obligations.StepKeepsInvariant : Prop := ∀ s t : State, s.Inv → step s = .next t → t.Inv

/-- R1208, R1209, R16: no access and no instruction stops the machine, so every step answers a next state; a
faulted machine is quiescent, so a fault is never cleared or replaced; no step changes the parameters of R7. That the
fault is a state which answers a next state is DEDUCED (assumption 16), and that the parameters stand in State is the
model's choice (assumption 2). -/
def Obligations.StepTotal : Prop :=
  ∀ s : State, ∃ t : State, step s = .next t ∧ t.params = s.params ∧
    ∀ f : IllegalOpcode, s.ctl.fault = some f → t = s

/-! ### Decoding and encoding -/

/-- Decoding the encoding of a well-formed instruction gives it back, and leaves the bytes that follow. The
prefix row's spelling decodes to the CB row its second byte names; that it is a second spelling is the model's choice
(assumption 14). -/
def Obligations.DecodeEncode : Prop :=
  ∀ (i : Instr) (rest : List Byte),
    decode (encode i ++ rest) = .ok (i.canonical, rest) ∧ (i.wellFormed = true → i.canonical = i)

/-- Encoding what was decoded gives the bytes back: every word has one meaning, none is lost, and three
bytes are always enough. -/
def Obligations.EncodeDecode : Prop :=
  (∀ (bytes rest : List Byte) (i : Instr), decode bytes = .ok (i, rest) →
    i.wellFormed = true ∧ encode i ++ rest = bytes) ∧
  (∀ (b0 b1 b2 : Byte) (rest : List Byte), ∃ (i : Instr) (tail : List Byte),
    decode (b0 :: b1 :: b2 :: rest) = .ok (i, tail))

/-- R306 and the block-2 half of R307: the fields of blocks 1 and 2. -/
def Obligations.DecodeBlocks12 : Prop :=
  ∀ (y z : BitVec 3) (rest : List Byte),
    (∀ dst r : Reg8, r8 y = .reg dst → r8 z = .reg r →
      decode ((0b01#2 ++ y ++ z : BitVec 8) :: rest) = .ok (Instr.loadReg dst r, rest)) ∧
    (∀ dst : Reg8, r8 y = .reg dst → r8 z = .indHl →
      decode ((0b01#2 ++ y ++ z : BitVec 8) :: rest) = .ok (Instr.loadHl dst, rest)) ∧
    (∀ r : Reg8, r8 y = .indHl → r8 z = .reg r →
      decode ((0b01#2 ++ y ++ z : BitVec 8) :: rest) = .ok (Instr.storeHl r, rest)) ∧
    (r8 y = .indHl → r8 z = .indHl → decode ((0b01#2 ++ y ++ z : BitVec 8) :: rest) = .ok (.halt, rest)) ∧
    (∀ op : AluOp, [AluOp.add, .adc, .sub, .sbc, .and, .xor, .or, .cp][y.toNat]? = some op →
      decode ((0b10#2 ++ y ++ z : BitVec 8) :: rest) = .ok (Instr.aluOf op (r8 z), rest))

/-- Words written out from the spec's encodings decode to the instructions they stand for (R300 to R308). -/
def Obligations.DecodeWords : Prop :=
  decode [0x31, 0xFE, 0xFF] = .ok (.ldSpN16 0xFFFE, []) ∧
  decode [0xEA, 0x34, 0xC0] = .ok (.ldIndA16A 0xC034, []) ∧
  decode [0x7E] = .ok (.ldAIndHl, []) ∧
  decode [0xFE, 0x90] = .ok (.cpAN8 0x90, []) ∧
  decode [0xE6, 0x0F] = .ok (.andAN8 0x0F, []) ∧
  decode [0x17] = .ok (.rla, []) ∧
  decode [0xCB, 0x37] = .ok (.swapA, []) ∧
  decode [0xCB, 0x7C] = .ok (.bit7H, []) ∧
  decode [0x20, 0xFB] = .ok (.jrNzE8 0xFB, []) ∧
  decode [0xCD, 0x50, 0x01] = .ok (.callA16 0x0150, []) ∧
  decode [0xF5] = .ok (.pushAf, []) ∧
  decode [0x10, 0x00] = .ok (.stop 0x00, [])

/-! ### The step -/

/-- A step runs the decoded instruction (R1200, R311, R1206, R1213): the host's input is taken (from the model's
own queue, assumption 4); when the machine is not faulted, no interrupt is due, it does not stay halted and no
HALT-bug refetch is pending, the bytes at pc, each read after the effect of the read before it (R218), decode to i,
and the step is exec of i at the state with i's bytes read, pc past i, the opcode's address latched (assumption 3)
and `halted` clear; then the EI countdown and the device time of i's machine cycles, unless i raised the fault,
which ends the step at once. That `halted` is clear also when i raised the fault is the model's choice (assumption
10). -/
def Obligations.StepRunsDecoded : Prop :=
  ∀ (s : State) (i : Instr) (rest : List Byte),
    let s1 := s.takeInput
    s.ctl.fault = none → s1.interruptDue = none → s1.idles = false → s1.ctl.haltSkip = false →
    decode [s1.memRead s1.regs.pc, (s1.afterReads s1.regs.pc 1).memRead (s1.regs.pc + 1),
      (s1.afterReads s1.regs.pc 2).memRead (s1.regs.pc + 2)] = .ok (i, rest) →
    let s2 : State :=
      { s1.afterReads s1.regs.pc i.length with
        regs := { s1.regs with pc := s1.regs.pc + BitVec.ofNat 16 i.length }
        ctl := { s1.ctl with halted := false, opcodeAddr := s1.regs.pc } }
    ∀ t : State, exec i s2 = .next t →
      (t.ctl.fault = none → step s = .next (t.applyEi.runDevices (s2.cyclesOf i))) ∧
      (t.ctl.fault ≠ none → step s = .next t)

/-- R1111 with `HaltBug`: while `halt_skip` is set, the first byte is read without advancing pc, so it is
the first byte of the instruction and is fetched again as the byte after it; `halt_skip` is then clear. The
clause about an instruction that raises the fault is the model's choice, not the spec's words: its step is
exec's state alone, in which `halted` and `halt_skip` are already clear (assumption 10, DEDUCED: R1208 says that
a raise changes `fault` alone) and the opcode's address is the model's own latch (assumption 3). The host's input is
taken from the model's own queue (assumption 4). -/
def Obligations.StepHaltBug : Prop :=
  ∀ (s : State) (i : Instr) (rest : List Byte),
    let s1 := s.takeInput
    s.ctl.fault = none → s1.interruptDue = none → s1.idles = false → s1.ctl.haltSkip = true →
    let s1' := s1.afterRead s1.regs.pc
    decode [s1.memRead s1.regs.pc, s1'.memRead s1.regs.pc,
      (s1'.afterRead s1.regs.pc).memRead (s1.regs.pc + 1)] = .ok (i, rest) →
    let s2 : State :=
      { s1'.afterReads s1.regs.pc (i.length - 1) with
        regs := { s1.regs with pc := s1.regs.pc + BitVec.ofNat 16 i.length - 1 }
        ctl := { s1.ctl with halted := false, haltSkip := false, opcodeAddr := s1.regs.pc } }
    ∀ t : State, exec i s2 = .next t →
      (t.ctl.fault = none → step s = .next (t.applyEi.runDevices (s2.cyclesOf i))) ∧
      (t.ctl.fault ≠ none → step s = .next t)

/-- R1203: the source serviced is the one with the lowest index among those pending and enabled, and one is
due exactly when IME is set and some source is both. -/
def Obligations.InterruptPriority : Prop :=
  ∀ s : State,
    (∀ i : IntSource, s.interruptDue = some i ↔
      s.ctl.ime = true ∧ s.intEnable.getLsbD i.index = true ∧ s.intFlag.getLsbD i.index = true ∧
        ∀ j : Nat, j < i.index → (s.intEnable.getLsbD j && s.intFlag.getLsbD j) = false) ∧
    (s.interruptDue = none ↔ s.ctl.ime = false ∨ s.intEnable.extractLsb' 0 5 &&& s.intFlag = 0)

/-- R1204: what taking an interrupt does, and nothing else: IME, `ime_delay` and `halted` are cleared, IF
bit i is cleared, pc is pushed high byte first, SP goes down by 2, pc goes to `0x0040 + 8 × i`. The source
and the vector stand before the push (R1205). The step costs 5 machine cycles; that it first takes the host's input
from a queue is the model's choice (assumption 4). -/
def Obligations.InterruptEntry : Prop :=
  (∀ (s : State) (i : IntSource), s.ctl.fault = none → s.takeInput.interruptDue = some i →
    step s = .next ((s.takeInput.dispatch i).runDevices 5)) ∧
  ∀ (s : State) (i : IntSource),
    let s1 : State :=
      { s with
        ctl := { s.ctl with ime := false, imeDelay := 0, halted := false }
        intFlag := s.intFlag &&& ~~~((1 : BitVec 5) <<< i.index) }
    let s2 := (s1.memWrite (s.regs.sp - 1) (hiByte s.regs.pc)).memWrite (s.regs.sp - 2) (loByte s.regs.pc)
    s.dispatch i =
      { s2 with
        regs := { s.regs with sp := s.regs.sp - 2, pc := BitVec.ofNat 16 (0x0040 + 8 * i.index) } }

/-- R1200, R1207, R1213: the steps that fetch nothing. One in which an interrupt is due ends with pc at its
vector, IME and `halted` clear and no EI countdown running, whatever the stack reached. One of a halted machine
with nothing pending and enabled applies the EI countdown and runs one machine cycle of device time, registers
unchanged and still halted. Both first take the host's input from the model's own queue (assumption 4). -/
def Obligations.StepsWithoutFetch : Prop :=
  ∀ s : State, s.ctl.fault = none →
    (∀ i : IntSource, s.takeInput.interruptDue = some i →
      ∃ t : State, step s = .next t ∧ t.regs.pc = BitVec.ofNat 16 (0x0040 + 8 * i.index) ∧
        t.regs.sp = s.regs.sp - 2 ∧ s.sameRegsBut t [] ∧ t.regs.f = s.regs.f ∧ t.ctl.ime = false ∧
        t.ctl.imeDelay = 0 ∧ t.ctl.halted = false) ∧
    (s.ctl.halted = true → s.takeInput.intEnable.extractLsb' 0 5 &&& s.takeInput.intFlag = 0 →
      step s = .next (s.takeInput.applyEi.runDevices 1) ∧
        ∀ t : State, step s = .next t → t.regs = s.regs ∧ t.ctl.halted = true)

/-- R1213, R1202: device time changes no register, no control state and no parameter, and only sets bits of
IF, so the CPU part of a step is the instruction's own effect. -/
def Obligations.DeviceTimeKeepsCpu : Prop :=
  ∀ (s : State) (c : Nat),
    (s.runDevices c).regs = s.regs ∧ (s.runDevices c).ctl = s.ctl ∧
      (s.runDevices c).intEnable = s.intEnable ∧ (s.runDevices c).params = s.params ∧
      s.intFlag &&& ~~~(s.runDevices c).intFlag = 0

/-- R1206, R1114: EI arms the countdown with 2; each countdown takes one off, and the one that reaches 0 sets
IME: the end of the EI step leaves it at 1 with IME as it was, the end of the next sets IME. -/
def Obligations.EiCountdown : Prop :=
  (∀ s : State, exec .ei s = .next { s with ctl := { s.ctl with imeDelay := 2 } }) ∧
  (∀ s : State,
    s.applyEi =
      { s with
        ctl := { s.ctl with
          imeDelay := s.ctl.imeDelay - 1
          ime := s.ctl.ime || decide (s.ctl.imeDelay = 1) } }) ∧
  (∀ s : State, s.ctl.imeDelay = 2 →
    s.applyEi.ctl.ime = s.ctl.ime ∧ s.applyEi.applyEi.ctl.ime = true ∧ s.applyEi.applyEi.ctl.imeDelay = 0)

/-- R18, R1510, R1511: with the default cycle table, the machine cycles of every instruction of the opcode table,
family by family; a conditional one takes the first value when its condition holds and the second when it does
not. The undefined opcodes have no cycles in the table, and no step uses any. -/
def Obligations.ConditionalCycles : Prop :=
  ∀ s : State, s.params.cycleOverrides = [] →
    (∀ (k : Cond) (a : Word) (e : Byte),
      s.cyclesOf (Instr.jumpIf k a) = (if s.holds k then 4 else 3) ∧
      s.cyclesOf (Instr.jumpRelIf k e) = (if s.holds k then 3 else 2) ∧
      s.cyclesOf (Instr.callIf k a) = (if s.holds k then 6 else 3) ∧
      s.cyclesOf (Instr.retIf k) = (if s.holds k then 5 else 2)) ∧
    (∀ (a : Word) (e : Byte) (y : BitVec 3) (p : RegStk),
      s.cyclesOf (.jpA16 a) = 4 ∧ s.cyclesOf .jpHl = 1 ∧ s.cyclesOf (.jrE8 e) = 3 ∧ s.cyclesOf (.callA16 a) = 6 ∧
      s.cyclesOf .ret = 4 ∧ s.cyclesOf .reti = 4 ∧ s.cyclesOf (Instr.rst y) = 4 ∧
      s.cyclesOf (Instr.push p) = 4 ∧ s.cyclesOf (Instr.pop p) = 3) ∧
    (∀ (dst r : Reg8) (m : RegMem) (a : Word) (n : Byte),
      s.cyclesOf (Instr.loadReg dst r) = 1 ∧ s.cyclesOf (Instr.loadHl dst) = 2 ∧ s.cyclesOf (Instr.storeHl r) = 2 ∧
      s.cyclesOf (Instr.loadImm dst n) = 2 ∧ s.cyclesOf (.ldIndHlN8 n) = 3 ∧ s.cyclesOf (Instr.loadA m) = 2 ∧
      s.cyclesOf (Instr.storeA m) = 2 ∧ s.cyclesOf (.ldAIndA16 a) = 4 ∧ s.cyclesOf (.ldIndA16A a) = 4 ∧
      s.cyclesOf (.ldhAIndA8 n) = 3 ∧ s.cyclesOf (.ldhIndA8A n) = 3 ∧ s.cyclesOf .ldhAIndC = 2 ∧
      s.cyclesOf .ldhIndCA = 2) ∧
    (∀ (p : Reg16) (n : Word) (e : Byte),
      s.cyclesOf (Instr.loadPair p n) = 3 ∧ s.cyclesOf (.ldIndA16Sp n) = 5 ∧ s.cyclesOf .ldSpHl = 2 ∧
      s.cyclesOf (.ldHlSpE8 e) = 3 ∧ s.cyclesOf (.addSpE8 e) = 4 ∧ s.cyclesOf (Instr.incPair p) = 2 ∧
      s.cyclesOf (Instr.decPair p) = 2 ∧ s.cyclesOf (Instr.addHl p) = 2) ∧
    (∀ (op : AluOp) (o : Operand8) (n : Byte),
      s.cyclesOf (Instr.aluOf op o) = (if o = .indHl then 2 else 1) ∧ s.cyclesOf (Instr.aluImm op n) = 2 ∧
      s.cyclesOf (Instr.incOf o) = (if o = .indHl then 3 else 1) ∧
      s.cyclesOf (Instr.decOf o) = (if o = .indHl then 3 else 1)) ∧
    (∀ i ∈ [Instr.nop, .halt, .di, .ei, .daa, .cpl, .scf, .ccf, .rlca, .rrca, .rla, .rra], s.cyclesOf i = 1) ∧
    (∀ b : Byte, s.cyclesOf (.stop b) = 1) ∧
    (∀ (x : BitVec 2) (y z : BitVec 3),
      s.cyclesOf (Instr.cbField x y z) = (if r8 z = .indHl then (if x = 1 then 3 else 4) else 2)) ∧
    (∀ b : Byte, s.cyclesOf (.prefixCb b) = s.cyclesOf (cbOf b))

/-! ### Loads -/

/-- R401, R402, R404: the load of a register, of the byte at HL (from the state after that read, R218), and of an
immediate into a register. -/
def Obligations.LoadRegister : Prop :=
  ∀ (s : State) (dst r : Reg8) (n : Byte),
    exec (Instr.loadReg dst r) s = .next (s.setReg dst (s.reg r)) ∧
    exec (Instr.loadHl dst) s = .next ((s.afterRead s.hl).setReg dst (s.memRead s.hl)) ∧
    exec (Instr.loadImm dst n) s = .next (s.setReg dst n)

/-- R406, R407, R410, R411, R414, R416, R418: the loads of A from memory; HL is stepped after the access. -/
def Obligations.LoadAccumulator : Prop :=
  ∀ (s : State) (m : RegMem) (a : Word) (n : Byte),
    (∃ t, exec (Instr.loadA m) s = .next t ∧ t.reg .a = s.memRead (s.memAddr m) ∧ t.hl = s.hlAfter m) ∧
    let fromAddr (b : Word) : State := (s.afterRead b).setReg .a (s.memRead b)
    exec (.ldAIndA16 a) s = .next (fromAddr a) ∧
    exec (.ldhAIndA8 n) s = .next (fromAddr (0xFF00 + n.setWidth 16)) ∧
    exec .ldhAIndC s = .next (fromAddr (0xFF00 + (s.reg .c).setWidth 16))

/-- R403, R405, R408, R409, R412, R413, R415, R417, R419: the byte stores; HL is stepped after the access. -/
def Obligations.StoreByte : Prop :=
  ∀ (s : State) (r : Reg8) (m : RegMem) (a : Word) (n : Byte),
    exec (Instr.storeHl r) s = .next (s.memWrite s.hl (s.reg r)) ∧
    exec (.ldIndHlN8 n) s = .next (s.memWrite s.hl n) ∧
    (∃ t, exec (Instr.storeA m) s = .next t ∧ t.hl = s.hlAfter m ∧
      t = { s.memWrite (s.memAddr m) (s.reg .a) with regs := t.regs }) ∧
    exec (.ldIndA16A a) s = .next (s.memWrite a (s.reg .a)) ∧
    exec (.ldhIndA8A n) s = .next (s.memWrite (0xFF00 + n.setWidth 16) (s.reg .a)) ∧
    exec .ldhIndCA s = .next (s.memWrite (0xFF00 + (s.reg .c).setWidth 16) (s.reg .a))

/-- R420, R421, R422: the 16-bit loads; SP is stored low byte first. -/
def Obligations.LoadPair : Prop :=
  ∀ (s : State) (p : Reg16) (n : Word),
    (∃ t, exec (Instr.loadPair p n) s = .next t ∧ t.pair p = n) ∧
    exec (.ldIndA16Sp n) s =
      .next ((s.memWrite n (loByte s.regs.sp)).memWrite (n + 1) (hiByte s.regs.sp)) ∧
    (∃ t, exec .ldSpHl s = .next t ∧ t.regs.sp = s.hl)

/-- R423, R532, R506: SP plus the signed offset, modulo 2^16; Z = N = 0; H and C are the carries out of bits
3 and 7 of the low byte of SP plus the offset's unsigned byte. -/
def Obligations.StackPointerOffset : Prop :=
  ∀ (s : State) (e : Byte),
    let sp := s.regs.sp
    let h := decide (sp.toNat % 16 + e.toNat % 16 > 15)
    let c := decide (sp.toNat % 256 + e.toNat > 255)
    (∃ t, exec (.ldHlSpE8 e) s = .next t ∧
      t.hl = BitVec.ofInt 16 ((sp.toNat : Int) + signed8 e) ∧ t.regs.sp = sp ∧ t.flagsAre false false h c) ∧
    (∃ t, exec (.addSpE8 e) s = .next t ∧
      t.regs.sp = BitVec.ofInt 16 ((sp.toNat : Int) + signed8 e) ∧ t.flagsAre false false h c)

/-! ### Arithmetic and logic -/

/-- R510 to R515, R501: ADD and ADC of every operand. -/
def Obligations.AddAdc : Prop :=
  ∀ (s : State) (o : Operand8) (n : Byte),
    (∃ t, exec (Instr.aluOf .add o) s = .next t ∧ s.isSum t (s.operand o) false) ∧
    (∃ t, exec (Instr.aluOf .adc o) s = .next t ∧ s.isSum t (s.operand o) s.flagC) ∧
    (∃ t, exec (Instr.aluImm .add n) s = .next t ∧ s.isSum t n false) ∧
    (∃ t, exec (Instr.aluImm .adc n) s = .next t ∧ s.isSum t n s.flagC)

/-- R516 to R524, R502: SUB, SBC and CP of every operand; CP leaves A. -/
def Obligations.SubSbcCp : Prop :=
  ∀ (s : State) (o : Operand8) (n : Byte),
    (∃ t, exec (Instr.aluOf .sub o) s = .next t ∧ s.isDifference t (s.operand o) false) ∧
    (∃ t, exec (Instr.aluOf .sbc o) s = .next t ∧ s.isDifference t (s.operand o) s.flagC) ∧
    (∃ t, exec (Instr.aluOf .cp o) s = .next t ∧ t.reg .a = s.reg .a ∧
      s.isDifferenceFlags t (s.operand o) false) ∧
    (∃ t, exec (Instr.aluImm .sub n) s = .next t ∧ s.isDifference t n false) ∧
    (∃ t, exec (Instr.aluImm .sbc n) s = .next t ∧ s.isDifference t n s.flagC) ∧
    (∃ t, exec (Instr.aluImm .cp n) s = .next t ∧ t.reg .a = s.reg .a ∧ s.isDifferenceFlags t n false)

/-- R610 to R619, R600 to R602: AND, XOR and OR of every operand, and CPL. -/
def Obligations.Logic : Prop :=
  ∀ (s : State) (o : Operand8) (n : Byte),
    (∃ t, exec (Instr.aluOf .and o) s = .next t ∧ t.isLogic (s.reg .a &&& s.operand o) true) ∧
    (∃ t, exec (Instr.aluOf .xor o) s = .next t ∧ t.isLogic (s.reg .a ^^^ s.operand o) false) ∧
    (∃ t, exec (Instr.aluOf .or o) s = .next t ∧ t.isLogic (s.reg .a ||| s.operand o) false) ∧
    (∃ t, exec (Instr.aluImm .and n) s = .next t ∧ t.isLogic (s.reg .a &&& n) true) ∧
    (∃ t, exec (Instr.aluImm .xor n) s = .next t ∧ t.isLogic (s.reg .a ^^^ n) false) ∧
    (∃ t, exec (Instr.aluImm .or n) s = .next t ∧ t.isLogic (s.reg .a ||| n) false) ∧
    (∃ t, exec .cpl s = .next t ∧ t.reg .a = ~~~(s.reg .a) ∧ t.flagsAre s.flagZ true true s.flagC)

/-- R525 to R528, R503, R504: INC and DEC of a register and of the byte at HL (read, written back from the state
after the read, flags merged: they describe the byte read plus or minus 1 also where the write is dropped); C is
unchanged. -/
def Obligations.IncDec : Prop :=
  ∀ (s : State) (o : Operand8),
    let v := s.operand o
    let written (w : Byte) : State := (s.afterOperand o).setOperand o w
    (∃ t, exec (Instr.incOf o) s = .next t ∧
      t = { written (v + 1) with regs := { (written (v + 1)).regs with f := t.regs.f } } ∧
      t.flagsAre (decide (v = 0xFF)) false (decide (v.toNat % 16 = 15)) s.flagC) ∧
    (∃ t, exec (Instr.decOf o) s = .next t ∧
      t = { written (v - 1) with regs := { (written (v - 1)).regs with f := t.regs.f } } ∧
      t.flagsAre (decide (v = 0x01)) true (decide (v.toNat % 16 = 0)) s.flagC)

/-- R529, R530, R531, R505: INC rr, DEC rr, and ADD HL, rr with H from bit 11 and C from bit 15, Z
unchanged. -/
def Obligations.PairArithmetic : Prop :=
  ∀ (s : State) (p : Reg16),
    (∃ t, exec (Instr.incPair p) s = .next t ∧ t.pair p = s.pair p + 1 ∧ t.regs.f = s.regs.f) ∧
    (∃ t, exec (Instr.decPair p) s = .next t ∧ t.pair p = s.pair p - 1 ∧ t.regs.f = s.regs.f) ∧
    (∃ t, exec (Instr.addHl p) s = .next t ∧
      t.hl.toNat = (s.hl.toNat + (s.pair p).toNat) % 65536 ∧
      t.flagsAre s.flagZ false (decide (s.hl.toNat % 4096 + (s.pair p).toNat % 4096 > 4095))
        (decide (s.hl.toNat + (s.pair p).toNat > 65535)))

/-- R533, R507: DAA by its two conditions on the original A; and, from R501, R502 and R507 together, what it is
for: after an addition or a subtraction of two-digit BCD numbers, DAA gives the two digits of the sum or the
difference modulo 100, and C says whether it passed 100 or went below 0. -/
def Obligations.DecimalAdjust : Prop :=
  (∀ s : State, ∃ t, exec .daa s = .next t ∧
    let a := s.reg .a
    let low := s.flagH || (!s.flagN && decide (a.toNat % 16 > 9))
    let high := s.flagC || (!s.flagN && decide (a.toNat > 0x99))
    let adj : Byte := (if low then 0x06 else 0) + (if high then 0x60 else 0)
    let v := if s.flagN then a - adj else a + adj
    t.reg .a = v ∧ t.flagsAre (v == 0) s.flagN false high) ∧
  (∀ x y : Nat, x < 100 → y < 100 → ∀ s : State, s.reg .a = bcd x →
    (∃ t u, exec (Instr.aluImm .add (bcd y)) s = .next t ∧ exec .daa t = .next u ∧
      u.reg .a = bcd ((x + y) % 100) ∧ u.flagC = decide (x + y ≥ 100)) ∧
    (∃ t u, exec (Instr.aluImm .sub (bcd y)) s = .next t ∧ exec .daa t = .next u ∧
      u.reg .a = bcd ((x + 100 - y) % 100) ∧ u.flagC = decide (x < y)))

/-! ### Rotates, shifts and bits -/

/-- R710 to R729, R308: the accumulator rotates, which clear Z; and the CB rotates and shifts, y naming the
operation and z the operand, of a register and of the byte at HL (read, then written back from the state after
the read): Z from the result,
N = H = 0, C the bit shifted out. All 64 CB instructions `rlcB` to `srlA`. -/
def Obligations.RotatesShifts : Prop :=
  ∀ s : State,
    (∀ p ∈ [(Instr.rlca, ShiftOp.rlc), (.rrca, .rrc), (.rla, .rl), (.rra, .rr)],
      ∃ t, exec p.1 s = .next t ∧ p.2.makes (s.reg .a) s.flagC (t.reg .a) ∧
        t.flagsAre false false false (p.2.carryOf (s.reg .a))) ∧
    (∀ (y z : BitVec 3) (op : ShiftOp),
      [ShiftOp.rlc, .rrc, .rl, .rr, .sla, .sra, .swap, .srl][y.toNat]? = some op →
      ∃ (t : State) (w : Byte), exec (Instr.cbField 0 y z) s = .next t ∧
        op.makes (s.operand (r8 z)) s.flagC w ∧
        (let u := (s.afterOperand (r8 z)).setOperand (r8 z) w
         t = { u with regs := { u.regs with f := t.regs.f } }) ∧
        t.flagsAre (w == 0) false false (op.carryOf (s.operand (r8 z))))

/-- R810, R811, R308: BIT y of the operand z: Z is the complement of the bit, N = 0, H = 1, C and everything
else unchanged since the operand was read. All 64 instructions `bit0B` to `bit7A`. -/
def Obligations.CbBit : Prop :=
  ∀ (s : State) (y z : BitVec 3),
    ∃ t, exec (Instr.cbField 1 y z) s = .next t ∧
      t = { s.afterOperand (r8 z) with regs := { s.regs with f := t.regs.f } } ∧
      t.flagsAre (!(s.operand (r8 z)).getLsbD y.toNat) false true s.flagC

/-- R812 to R815, R308: RES y and SET y of the operand z: bit y becomes 0 or 1, every other bit stays, no
flag changes. All 128 instructions `res0B` to `set7A`. -/
def Obligations.CbResSet : Prop :=
  ∀ (s : State) (y z : BitVec 3),
    (∃ w : Byte, exec (Instr.cbField 2 y z) s = .next ((s.afterOperand (r8 z)).setOperand (r8 z) w) ∧
      ∀ i : Nat, i < 8 →
        w.getLsbD i = (if i = y.toNat then false else (s.operand (r8 z)).getLsbD i)) ∧
    (∃ w : Byte, exec (Instr.cbField 3 y z) s = .next ((s.afterOperand (r8 z)).setOperand (r8 z) w) ∧
      ∀ i : Nat, i < 8 →
        w.getLsbD i = (if i = y.toNat then true else (s.operand (r8 z)).getLsbD i))

/-- R1117: the prefix executes the instruction of its second byte; that the prefix row has a constructor of its own is
the model's choice (assumption 14). -/
def Obligations.PrefixExecutes : Prop :=
  ∀ (s : State) (b : Byte), exec (.prefixCb b) s = exec (cbOf b) s ∧ ∃ t, exec (.prefixCb b) s = .next t

/-! ### Control transfer and stack -/

/-- R910 to R914: the jumps; the relative base is the address after the instruction. -/
def Obligations.Jumps : Prop :=
  ∀ (s : State) (k : Cond) (a : Word) (e : Byte),
    let rel := BitVec.ofInt 16 ((s.regs.pc.toNat : Int) + signed8 e)
    exec (.jpA16 a) s = .next (s.setPc a) ∧
    exec (Instr.jumpIf k a) s = .next (if s.holds k then s.setPc a else s) ∧
    exec .jpHl s = .next (s.setPc s.hl) ∧
    exec (.jrE8 e) s = .next (s.setPc rel) ∧
    exec (Instr.jumpRelIf k e) s = .next (if s.holds k then s.setPc rel else s)

/-- R915, R916, R920, R14: CALL and RST push the address after the instruction, high byte first, and jump; a
call not taken does nothing. -/
def Obligations.Calls : Prop :=
  ∀ (s : State) (k : Cond) (a : Word) (y : BitVec 3),
    let pushed : State :=
      (s.memWrite (s.regs.sp - 1) (hiByte s.regs.pc)).memWrite (s.regs.sp - 2) (loByte s.regs.pc)
    let called (target : Word) : State :=
      { pushed with regs := { s.regs with sp := s.regs.sp - 2, pc := target } }
    exec (.callA16 a) s = .next (called a) ∧
    exec (Instr.callIf k a) s = .next (if s.holds k then called a else s) ∧
    exec (Instr.rst y) s = .next (called (BitVec.ofNat 16 (8 * y.toNat)))

/-- R917, R918, R919, R1211: RET pops pc, low byte at SP first; a return not taken does nothing; RETI also sets
IME at once and cancels the EI countdown. -/
def Obligations.Returns : Prop :=
  ∀ (s : State) (k : Cond),
    let returned : State :=
      { s.afterReads s.regs.sp 2 with
        regs := { s.regs with
          sp := s.regs.sp + 2
          pc := wordOf ((s.afterRead s.regs.sp).memRead (s.regs.sp + 1)) (s.memRead s.regs.sp) } }
    exec .ret s = .next returned ∧
    exec (Instr.retIf k) s = .next (if s.holds k then returned else s) ∧
    exec .reti s = .next { returned with ctl := { s.ctl with ime := true, imeDelay := 0 } }

/-- R1010 to R1013: PUSH writes the pair high byte first below SP, with F's low nibble 0; POP reads it back,
low byte first, and POP AF drops the low nibble. -/
def Obligations.PushPop : Prop :=
  ∀ (s : State) (p : RegStk),
    (∀ hi lo : Byte,
      (match p with
        | .bc => hi = s.regs.b ∧ lo = s.regs.c
        | .de => hi = s.regs.d ∧ lo = s.regs.e
        | .hl => hi = s.regs.h ∧ lo = s.regs.l
        | .af => hi = s.regs.a ∧ lo = s.regs.f &&& 0xF0) →
      exec (Instr.push p) s =
        .next { (s.memWrite (s.regs.sp - 1) hi).memWrite (s.regs.sp - 2) lo with
          regs := { s.regs with sp := s.regs.sp - 2 } }) ∧
    let lo := s.memRead s.regs.sp
    let hi := (s.afterRead s.regs.sp).memRead (s.regs.sp + 1)
    (∃ t, exec (Instr.pop p) s = .next t ∧ t.regs.sp = s.regs.sp + 2 ∧
      (match p with
        | .bc => t.regs.b = hi ∧ t.regs.c = lo
        | .de => t.regs.d = hi ∧ t.regs.e = lo
        | .hl => t.regs.h = hi ∧ t.regs.l = lo
        | .af => t.regs.a = hi ∧ t.regs.f = lo &&& 0xF0))

/-- A word pushed to work or high RAM and popped comes back, with SP where it was. -/
def Obligations.PushThenPop : Prop :=
  ∀ (s : State) (p q : RegStk),
    (∃ k, s.target (s.regs.sp - 1) = .ram k) → (∃ k, s.target (s.regs.sp - 2) = .ram k) →
    ∃ t u, exec (Instr.push p) s = .next t ∧ exec (Instr.pop q) t = .next u ∧
      u.regs.sp = s.regs.sp ∧
      (q ≠ .af → u.stk q = s.stk p) ∧ (q = .af → u.stk q = s.stk p &&& 0xFFF0)

/-! ### System instructions -/

/-- R1110 to R1116: NOP, DI, SCF, CCF; HALT halts, but under `HaltBug` with IME = 0 and a source pending and
enabled it marks a refetch; STOP halts, or under `StopBehaviour = Fault` raises IllegalOpcode(0x10, addr). What
STOP's fault leaves is the model's choice, not the spec's words: exec records it and changes nothing else, pc
standing after both bytes (assumption 11, DEDUCED from R1208), with the opcode's address from the model's own
latch (assumption 3). -/
def Obligations.SystemInstructions : Prop :=
  ∀ (s : State) (b : Byte),
    exec .nop s = .next s ∧
    exec .di s = .next { s with ctl := { s.ctl with ime := false, imeDelay := 0 } } ∧
    (∃ t, exec .scf s = .next t ∧ t = { s with regs := { s.regs with f := t.regs.f } } ∧
      t.flagsAre s.flagZ false false true) ∧
    (∃ t, exec .ccf s = .next t ∧ t = { s with regs := { s.regs with f := t.regs.f } } ∧
      t.flagsAre s.flagZ false false (!s.flagC)) ∧
    (s.params.haltBug = true → s.ctl.ime = false → s.intEnable.extractLsb' 0 5 &&& s.intFlag ≠ 0 →
      exec .halt s = .next { s with ctl := { s.ctl with haltSkip := true } }) ∧
    (s.params.haltBug = false ∨ s.ctl.ime = true ∨ s.intEnable.extractLsb' 0 5 &&& s.intFlag = 0 →
      exec .halt s = .next { s with ctl := { s.ctl with halted := true } }) ∧
    (s.params.stopBehaviour = .asHalt →
      exec (.stop b) s = .next { s with ctl := { s.ctl with halted := true } }) ∧
    (s.params.stopBehaviour = .fault →
      exec (.stop b) s = .next { s with ctl := { s.ctl with fault := some ⟨0x10, s.ctl.opcodeAddr⟩ } })

/-- R309, R1118, R1208: the eleven undefined opcodes, and no other first bytes, decode to the undefined
instructions; one of them enters the fault state with the opcode and an address, and changes nothing else. The address
recorded is what the model's own latch `opcodeAddr` holds (assumption 3, DESIGN CHOICE); that every step latches the
address the opcode was fetched from, which R1208 asks for, is in StepRunsDecoded and StepHaltBug. -/
def Obligations.UndefinedOpcodes : Prop :=
  (∀ r ∈ illegalRows, ∀ (s : State) (rest : List Byte),
    decode (r.1 :: rest) = .ok (r.2, rest) ∧
    exec r.2 s = .next { s with ctl := { s.ctl with fault := some ⟨r.1, s.ctl.opcodeAddr⟩ } }) ∧
  (∀ (b : Byte) (bytes rest : List Byte) (i : Instr), decode (b :: bytes) = .ok (i, rest) →
    i ∈ illegalRows.map Prod.snd → b ∈ illegalRows.map Prod.fst)

/-! ### Frames -/

/-- The frame of the register loads: only the destination changes, and HL where the operand steps it; outside the
registers nothing but what the read of the operand does (R218), so nothing with the default devices. -/
def Obligations.FrameLoads : Prop :=
  ∀ (s u t : State) (i : Instr) (dests : List Reg8),
    ((∃ (dst r : Reg8) (n : Byte), dests = [dst] ∧ u = s ∧ (i = Instr.loadReg dst r ∨ i = Instr.loadImm dst n)) ∨
    (∃ dst : Reg8, dests = [dst] ∧ u = s.afterRead s.hl ∧ i = Instr.loadHl dst) ∨
    (∃ m : RegMem, dests = .a :: m.stepped ∧ u = s.afterRead (s.memAddr m) ∧ i = Instr.loadA m) ∨
    (∃ a : Word, dests = [.a] ∧ u = s.afterRead a ∧ i = .ldAIndA16 a) ∨
    (∃ n : Byte, dests = [.a] ∧ u = s.afterRead (highAddr n) ∧ i = .ldhAIndA8 n) ∨
    (dests = [.a] ∧ u = s.afterRead (highAddr (s.reg .c)) ∧ i = .ldhAIndC)) →
    exec i s = .next t →
    s.sameRegsBut t dests ∧ t.regs.sp = s.regs.sp ∧ t.regs.pc = s.regs.pc ∧ t.regs.f = s.regs.f ∧
      s.sameAfterReads u t

/-- The frame of the 16-bit loads and arithmetic: only the destination pair changes, and for ADD HL,
LD HL, SP+e8 and ADD SP the flags (N, H, C, and Z for the last two). -/
def Obligations.FramePairs : Prop :=
  ∀ (s t : State) (i : Instr) (p : Reg16),
    ((∃ n : Word, i = Instr.loadPair p n) ∨ i = Instr.incPair p ∨ i = Instr.decPair p ∨
      (p = .sp ∧ i = .ldSpHl) ∨ (∃ q : Reg16, p = .hl ∧ i = Instr.addHl q) ∨
      (∃ e : Byte, p = .hl ∧ i = .ldHlSpE8 e) ∨ (∃ e : Byte, p = .sp ∧ i = .addSpE8 e)) →
    exec i s = .next t →
    s.sameRegsBut t p.halves ∧ (p ≠ .sp → t.regs.sp = s.regs.sp) ∧ t.regs.pc = s.regs.pc ∧
      s.sameOutsideRegs t ∧
      ((∃ n : Word, i = Instr.loadPair p n) ∨ i = Instr.incPair p ∨ i = Instr.decPair p ∨ i = .ldSpHl →
        t.regs.f = s.regs.f) ∧
      ((∃ q : Reg16, i = Instr.addHl q) → t.flagZ = s.flagZ)

/-- The frame of the operations on A and on the flags alone: A and F change, and nothing else but what the read
of the operand does (R218), so nothing with the default devices; CP, SCF and CCF leave A; CPL, SCF and CCF leave
Z, CPL leaves C, DAA leaves N. -/
def Obligations.FrameAccumulator : Prop :=
  ∀ (s u t : State) (i : Instr),
    ((∃ (op : AluOp) (o : Operand8), u = s.afterOperand o ∧ i = Instr.aluOf op o) ∨
      (u = s ∧ ((∃ (op : AluOp) (n : Byte), i = Instr.aluImm op n) ∨
        i ∈ [Instr.daa, .cpl, .rlca, .rrca, .rla, .rra, .scf, .ccf]))) →
    exec i s = .next t →
    s.sameRegsBut t [.a] ∧ t.regs.sp = s.regs.sp ∧ t.regs.pc = s.regs.pc ∧ s.sameAfterReads u t ∧
      ((∃ o : Operand8, i = Instr.aluOf .cp o) ∨ (∃ n : Byte, i = Instr.aluImm .cp n) ∨ i = .scf ∨ i = .ccf →
        t.reg .a = s.reg .a) ∧
      (i ∈ [Instr.cpl, .scf, .ccf] → t.flagZ = s.flagZ) ∧ (i = .cpl → t.flagC = s.flagC) ∧
      (i = .daa → t.flagN = s.flagN)

/-- The frame of the operations on one register and of BIT: INC r and DEC r (C stays), the CB rotates and
shifts of a register, RES and SET of a register (no flag changes), BIT of any operand (C stays, no register
changes). Outside the registers nothing changes but what BIT's read of the byte at HL does (R218). -/
def Obligations.FrameRegisterOps : Prop :=
  ∀ (s u t : State) (i : Instr) (dests : List Reg8),
    ((∃ r : Reg8, dests = [r] ∧ u = s ∧ (i = Instr.incOf (.reg r) ∨ i = Instr.decOf (.reg r))) ∨
      (∃ (x : BitVec 2) (y z : BitVec 3) (r : Reg8), x ≠ 1 ∧ r8 z = .reg r ∧ dests = [r] ∧ u = s ∧
        i = Instr.cbField x y z) ∨
      (∃ y z : BitVec 3, dests = [] ∧ u = s.afterOperand (r8 z) ∧ i = Instr.cbField 1 y z)) →
    exec i s = .next t →
    s.sameRegsBut t dests ∧ t.regs.sp = s.regs.sp ∧ t.regs.pc = s.regs.pc ∧ s.sameAfterReads u t ∧
      ((∃ o : Operand8, i = Instr.incOf o ∨ i = Instr.decOf o) ∨ (∃ y z : BitVec 3, i = Instr.cbField 1 y z) →
        t.flagC = s.flagC) ∧
      ((∃ y z : BitVec 3, i = Instr.cbField 2 y z ∨ i = Instr.cbField 3 y z) → t.regs.f = s.regs.f)

/-- The frame of the stores: no register but the stepped HL, no flag; the stored address is the operand's, and
every cell of memory and every byte read outside the one stored (two for LD (a16), SP) is as before, but for the
named device effects. -/
def Obligations.FrameStores : Prop :=
  ∀ (s t : State) (i : Instr) (stored : List Word) (dests : List Reg8),
    ((∃ (r : Reg8) (n : Byte), stored = [s.hl] ∧ dests = [] ∧ (i = Instr.storeHl r ∨ i = .ldIndHlN8 n)) ∨
      (∃ m : RegMem, stored = [s.memAddr m] ∧ dests = m.stepped ∧ i = Instr.storeA m) ∨
      (∃ a : Word, stored = [a] ∧ dests = [] ∧ i = .ldIndA16A a) ∨
      (∃ n : Byte, stored = [highAddr n] ∧ dests = [] ∧ i = .ldhIndA8A n) ∨
      (stored = [highAddr (s.reg .c)] ∧ dests = [] ∧ i = .ldhIndCA) ∨
      (∃ a : Word, stored = [a, a + 1] ∧ dests = [] ∧ i = .ldIndA16Sp a)) →
    exec i s = .next t →
    s.sameRegsBut t dests ∧ t.regs.sp = s.regs.sp ∧ t.regs.pc = s.regs.pc ∧ t.regs.f = s.regs.f ∧
      s.storeFrame t stored

/-- The frame of the read-modify-write forms on (HL): no register changes; INC and DEC leave C; RES and SET
leave every flag; every cell of memory and every byte read but the one at HL is as before, but for the named
device effects, from the state after the read (R218), which with the default devices is s. -/
def Obligations.FrameMemoryOps : Prop :=
  ∀ (s t : State) (i : Instr),
    (i = Instr.incOf .indHl ∨ i = Instr.decOf .indHl ∨
      (∃ (x : BitVec 2) (y : BitVec 3), x ≠ 1 ∧ i = Instr.cbField x y 6)) →
    exec i s = .next t →
    s.sameRegsBut t [] ∧ t.regs.sp = s.regs.sp ∧ t.regs.pc = s.regs.pc ∧
      (s.afterRead s.hl).storeFrame t [s.hl] ∧
      ((∀ d : DeviceKind, s.params.device d = .default) → s.storeFrame t [s.hl]) ∧
      (i = Instr.incOf .indHl ∨ i = Instr.decOf .indHl → t.flagC = s.flagC) ∧
      ((∃ y : BitVec 3, i = Instr.cbField 2 y 6 ∨ i = Instr.cbField 3 y 6) → t.regs.f = s.regs.f)

/-- The frame of the control transfers and of the stack: jumps change pc alone; calls and RST change pc, SP and
the two bytes pushed; returns change pc and SP, RETI also IME and the countdown; PUSH changes SP and the two
bytes; POP changes SP and its pair. A pop changes nothing else but what its two reads do (R218), so nothing with
the default devices. -/
def Obligations.FrameControl : Prop :=
  ∀ (s t : State) (i : Instr), exec i s = .next t →
    let popped := s.afterReads s.regs.sp 2
    ((∃ (k : Cond) (a : Word) (e : Byte),
        i = .jpA16 a ∨ i = Instr.jumpIf k a ∨ i = .jpHl ∨ i = .jrE8 e ∨ i = Instr.jumpRelIf k e) →
      s.sameRegsBut t [] ∧ t.regs.f = s.regs.f ∧ t.regs.sp = s.regs.sp ∧ s.sameOutsideRegs t) ∧
    ((∃ (k : Cond) (a : Word) (y : BitVec 3) (p : RegStk),
        i = .callA16 a ∨ i = Instr.callIf k a ∨ i = Instr.rst y ∨ i = Instr.push p) →
      s.sameRegsBut t [] ∧ t.regs.f = s.regs.f ∧ s.storeFrame t [s.regs.sp - 1, s.regs.sp - 2]) ∧
    (∀ k : Cond, i = .ret ∨ (i = Instr.retIf k ∧ s.holds k = true) →
      s.sameRegsBut t [] ∧ t.regs.f = s.regs.f ∧ s.sameAfterReads popped t) ∧
    (∀ k : Cond, i = Instr.retIf k → s.holds k = false → t = s) ∧
    (i = .reti →
      s.sameRegsBut t [] ∧ t.regs.f = s.regs.f ∧
        s.sameAfterReads popped { t with ctl := { t.ctl with ime := s.ctl.ime, imeDelay := s.ctl.imeDelay } }) ∧
    (∀ p : Reg16, (p = .bc ∧ i = Instr.pop .bc) ∨ (p = .de ∧ i = Instr.pop .de) ∨ (p = .hl ∧ i = Instr.pop .hl) →
      s.sameRegsBut t p.halves ∧ t.regs.f = s.regs.f ∧ t.regs.pc = s.regs.pc ∧ s.sameAfterReads popped t) ∧
    (i = Instr.pop .af → s.sameRegsBut t [.a] ∧ t.regs.pc = s.regs.pc ∧ s.sameAfterReads popped t)

/-! ### The bus -/

/-- R201, R202, R204, R206, R208, R209, R211, R212: what each range of the address space reads and what a write
to it does, where no PPU lock and no device takes part. -/
def Obligations.BusMap : Prop :=
  ∀ (s : State) (a : Word) (v : Byte),
    (a.toNat < 0x8000 → s.memRead a = s.mem.read a.toNat ∧ s.memWrite a v = s) ∧
    (0xA000 ≤ a.toNat → a.toNat < 0xC000 →
      (s.params.extRamPresent = true →
        s.memRead a = s.mem.read a.toNat ∧ (s.memWrite a v).memRead a = v) ∧
      (s.params.extRamPresent = false → s.memRead a = 0xFF ∧ s.memWrite a v = s)) ∧
    (0xC000 ≤ a.toNat → a.toNat < 0xE000 → (s.memWrite a v).memRead a = v) ∧
    (0xE000 ≤ a.toNat → a.toNat < 0xFE00 →
      s.memRead a = s.memRead (a - 0x2000) ∧ s.memWrite a v = s.memWrite (a - 0x2000) v) ∧
    (0xFEA0 ≤ a.toNat → a.toNat < 0xFF00 → s.memRead a = 0xFF ∧ s.memWrite a v = s) ∧
    (a = 0xFF03 ∨ (0xFF08 ≤ a.toNat ∧ a.toNat ≤ 0xFF0E) ∨ (0xFF10 ≤ a.toNat ∧ a.toNat ≤ 0xFF3F) ∨
        (0xFF4C ≤ a.toNat ∧ a.toNat ≤ 0xFF7F) → s.memRead a = 0xFF ∧ s.memWrite a v = s) ∧
    (0xFF80 ≤ a.toNat → a.toNat < 0xFFFF → (s.memWrite a v).memRead a = v) ∧
    (a = 0xFFFF → s.memRead a = s.intEnable ∧ s.memWrite a v = { s with intEnable := v })

/-- R213: while the PPU holds its lock, VRAM, OAM and the palettes read 0xFF and drop writes; while it does
not, VRAM and OAM are memory and the palettes read back what was written. One lock for reads and writes alike is
DEDUCED (assumption 17). -/
def Obligations.PpuLocks : Prop :=
  ∀ (s : State) (a : Word) (v : Byte),
    (0x8000 ≤ a.toNat → a.toNat < 0xA000 →
      (s.ppu.vramLock = true → s.memRead a = 0xFF ∧ s.memWrite a v = s) ∧
      (s.ppu.vramLock = false → s.memRead a = s.mem.read a.toNat ∧ (s.memWrite a v).memRead a = v)) ∧
    (0xFE00 ≤ a.toNat → a.toNat < 0xFEA0 →
      (s.ppu.oamLock = true → s.memRead a = 0xFF ∧ s.memWrite a v = s) ∧
      (s.ppu.oamLock = false → s.memRead a = s.mem.read a.toNat ∧ (s.memWrite a v).memRead a = v)) ∧
    (0xFF47 ≤ a.toNat → a.toNat ≤ 0xFF49 →
      (s.ppu.palLock = true → s.memRead a = 0xFF ∧ s.memWrite a v = s) ∧
      (s.ppu.palLock = false → (s.memWrite a v).memRead a = v))

/-- R114, R119, R121 and the read/write registers of R117: IF reads `0xE0 | IF[4:0]` and a write stores bits
4..0; STAT reads 1, its enables, the coincidence and the mode, and a write stores bits 6..3; a write of LY is
ignored; LCDC, SCY, SCX, LYC, WY and WX read back what was written. R218: a read changes nothing but a fitted
device's own state and its request, and at any address but a register of a device that replaces a default one
it changes nothing. R1460: that device's registers are read and written by its own read and write, it ticks and
sees the host's input by its own, and it reaches nothing but its own state and its request; how such a device is
written down, a model number and a state coded as a number, is the model's choice (assumption 1). -/
def Obligations.IoRegisters : Prop :=
  ∀ (s : State) (v : Byte),
    (s.memRead 0xFF0F = 0b111#3 ++ s.intFlag ∧
      s.memWrite 0xFF0F v = { s with intFlag := v.extractLsb' 0 5 }) ∧
    (s.memRead 0xFF41 = 0b1#1 ++ s.lcd.statEnable ++ BitVec.ofBool s.lcd.statCoinc ++ s.lcd.statMode.bits ∧
      s.memWrite 0xFF41 v = { s with lcd := { s.lcd with statEnable := v.extractLsb' 3 4 } }) ∧
    (s.memRead 0xFF44 = s.lcd.ly ∧ s.memWrite 0xFF44 v = s) ∧
    (∀ a ∈ ([0xFF40, 0xFF42, 0xFF43, 0xFF45, 0xFF4A, 0xFF4B] : List Word), (s.memWrite a v).memRead a = v) ∧
    (∀ a : Word, s.afterRead a = { s with others := (s.afterRead a).others, intFlag := (s.afterRead a).intFlag } ∧
      ((a = 0xFF00 → s.params.joypadDevice = .default) →
        (a = 0xFF01 ∨ a = 0xFF02 → s.params.serialDevice = .default) →
        (0xFF04 ≤ a.toNat ∧ a.toNat ≤ 0xFF07 → s.params.timerDevice = .default) → s.afterRead a = s)) ∧
    (∀ (d : DeviceKind) (m : Nat), s.params.device d = .other m →
      let own := s.others.of d
      let bit : BitVec 5 :=
        match d with
        | .timer => 0b00100
        | .serial => 0b01000
        | .joypad => 0b10000
      let acted (u : Nat × Bool) : State :=
        { s with others := s.others.set d u.1, intFlag := if u.2 then s.intFlag ||| bit else s.intFlag }
      (∀ k : Nat, k < (match d with | .timer => 4 | .joypad => 1 | .serial => 2) →
        let a : Word :=
          match d with
          | .timer => 0xFF04 + BitVec.ofNat 16 k
          | .joypad => 0xFF00
          | .serial => 0xFF01 + BitVec.ofNat 16 k
        s.memRead a = Config.deviceRead d m own k ∧
        s.afterRead a = acted (Config.deviceReadEffect d m own k) ∧
        s.memWrite a v = acted (Config.deviceWrite d m own k v)) ∧
      (d = .timer → s.tickTimer = acted (Config.deviceTick d m own)) ∧
      (d = .serial → s.tickSerial = acted (Config.deviceTick d m own)) ∧
      (d = .joypad → ∀ p : Buttons, s.press p = acted (Config.joypadInput m own p)) ∧
      (∀ l : Launch, l.params = s.params → l.reset.others.of d = Config.deviceReset d m))

/-! ### OAM DMA -/

/-- R1401, R1402, R1403: a write of v to 0xFF46 below page 0xFE starts a transfer, restarting any that runs; 640
DMA dots later OAM holds the 160 bytes the CPU bus would have read from page v with every PPU lock open, and the
transfer is over; no register or control state, and no memory outside OAM, changes. -/
def Obligations.DmaTransfer : Prop :=
  ∀ (s : State) (v : Byte), v.toNat < 0xFE →
    let s1 := s.memWrite 0xFF46 v
    let t := repeatTimes 640 State.dmaDot s1
    s1.lcd.dmaReg = v ∧ s1.dma = ⟨true, wordOf v 0, 0, 0⟩ ∧
    t.dma.active = false ∧
    (∀ i : Nat, i < 160 →
      t.mem.read (0xFE00 + i) = s1.dmaBusRead (BitVec.ofNat 16 (256 * v.toNat + i))) ∧
    (∀ a : Word, a.toNat < 0xFE00 →
      s1.dmaBusRead a =
        ({ s with ppu := { s.ppu with oamLock := false, vramLock := false, palLock := false } } : State).memRead a) ∧
    (∀ a : Nat, a < 0xFE00 ∨ 0xFEA0 ≤ a → t.mem.read a = s.mem.read a) ∧
    t.regs = s.regs ∧ t.ctl = s.ctl ∧ t.intFlag = s.intFlag ∧ t.draws = s.draws

/-- R1403: an OAM DMA from page 0xFE or 0xFF completes all the same: each byte is a draw of the unspecified
`DmaHighSource` (the model's free value), whatever its value. -/
def Obligations.DmaHighPages : Prop :=
  ∀ (s : State) (v : Byte), 0xFE ≤ v.toNat →
    let t := repeatTimes 640 State.dmaDot (s.memWrite 0xFF46 v)
    t.dma.active = false ∧ t.draws = s.draws + 160 ∧
    (∀ i : Nat, i < 160 → t.mem.read (0xFE00 + i) = Config.dmaHighSource (s.draws + i)) ∧
    (∀ a : Nat, a < 0xFE00 ∨ 0xFEA0 ≤ a → t.mem.read a = s.mem.read a) ∧ t.regs = s.regs

/-! ### The devices -/

/-- R1461: the default timer: the reads and writes of its four registers, the tick, and the increment of TIMA
when the signal falls, with the reload and the request when it passes 0xFF; while it is the device fitted. -/
def Obligations.TimerDevice : Prop :=
  ∀ (s : State) (v : Byte), s.params.timerDevice = .default →
    let sig (u : Timer) : Bool :=
      u.tac.getLsbD 2 && u.counter.getLsbD ([9, 3, 5, 7].getD (u.tac.toNat % 4) 0)
    let settled (u : Timer) : State :=
      if sig s.timer && !sig u then
        if u.tima = 0xFF then
          { s with timer := { u with tima := u.tma }, intFlag := s.intFlag ||| 0b00100 }
        else { s with timer := { u with tima := u.tima + 1 } }
      else { s with timer := u }
    State.reset.timer = ⟨0, 0, 0, 0⟩ ∧
    s.memRead 0xFF04 = hiByte s.timer.counter ∧ s.memRead 0xFF05 = s.timer.tima ∧
    s.memRead 0xFF06 = s.timer.tma ∧ s.memRead 0xFF07 = 0b11111#5 ++ s.timer.tac ∧
    s.memWrite 0xFF04 v = settled { s.timer with counter := 0 } ∧
    s.memWrite 0xFF05 v = settled { s.timer with tima := v } ∧
    s.memWrite 0xFF06 v = settled { s.timer with tma := v } ∧
    s.memWrite 0xFF07 v = settled { s.timer with tac := v.extractLsb' 0 3 } ∧
    s.tickTimer = settled { s.timer with counter := s.timer.counter + 4 }

/-- R1462, R1472: the default joypad: bits 7..6 read 1, bits 5..4 the select, bits 3..0 are 0 for the pressed
buttons of the selected groups; a select write or a host input that turns one of them from 1 to 0 requests; while
it is the device fitted. That the host's input is the head of a queue, taken by `takeInput` at a step boundary, is the
model's choice (assumption 4, DESIGN CHOICE). -/
def Obligations.JoypadDevice : Prop :=
  ∀ (s : State) (v : Byte) (p : Buttons), s.params.joypadDevice = .default →
    let low (j : Joypad) (k : Nat) : Bool :=
      !((!j.sel.getLsbD 0 && [j.pressed.right, j.pressed.left, j.pressed.up, j.pressed.down].getD k false) ||
        (!j.sel.getLsbD 1 && [j.pressed.a, j.pressed.b, j.pressed.select, j.pressed.start].getD k false))
    let falls (j : Joypad) : Bool := [0, 1, 2, 3].any fun k => low s.joypad k && !low j k
    let changed (j : Joypad) : State :=
      { s with joypad := j, intFlag := if falls j then s.intFlag ||| 0b10000 else s.intFlag }
    State.reset.joypad = ⟨0b11, Buttons.none⟩ ∧
    (∀ k : Nat, k < 4 → (s.memRead 0xFF00).getLsbD k = low s.joypad k) ∧
    (s.memRead 0xFF00).extractLsb' 4 4 = 0b11#2 ++ s.joypad.sel ∧
    s.memWrite 0xFF00 v = changed { s.joypad with sel := v.extractLsb' 4 2 } ∧
    (∀ rest : List Buttons,
      ({ s with hostInputs := p :: rest } : State).takeInput =
        { changed { s.joypad with pressed := p } with hostInputs := rest })

/-- R1463: the default serial unit with no link partner: reads, writes, and the tick that ends a transfer with
SB = 0xFF, SC bit 7 clear and a request; while it is the device fitted. That a write of SC which does not start a
transfer leaves the count of one under way as it was is the model's choice (assumption 13, DEDUCED). -/
def Obligations.SerialDevice : Prop :=
  ∀ (s : State) (v : Byte), s.params.serialDevice = .default →
    State.reset.serial = ⟨0x00, false, false, 0⟩ ∧
    s.memRead 0xFF01 = s.serial.sb ∧
    s.memRead 0xFF02 = BitVec.ofBool s.serial.scStart ++ 0b111111#6 ++ BitVec.ofBool s.serial.scClock ∧
    s.memWrite 0xFF01 v = { s with serial := { s.serial with sb := v } } ∧
    s.memWrite 0xFF02 v =
      { s with
        serial := { s.serial with
          scStart := v.getLsbD 7
          scClock := v.getLsbD 0
          left := if v.getLsbD 7 = true ∧ v.getLsbD 0 = true then 1024 else s.serial.left } } ∧
    (s.serial.left = 0 → s.tickSerial = s) ∧
    (1 < s.serial.left →
      s.tickSerial = { s with serial := { s.serial with left := s.serial.left - 1 } }) ∧
    (s.serial.left = 1 →
      s.tickSerial =
        { s with
          serial := { s.serial with left := 0, sb := 0xFF, scStart := false }
          intFlag := s.intFlag ||| 0b01000 })

/-! ### The PPU -/

/-- R1324, R1325, R1301, R1300: the dots at which lines end: from H-blank to the next line's OAM scan, or to
V-blank with its request once LY reaches 144, the window's line counted and every lock open; from V-blank to its
next line, or to OAM scan at line 0. -/
def Obligations.PpuLineEnds : Prop :=
  ∀ s : State, s.lcd.lcdc.getLsbD 7 = true → s.ppu.lcdWasOn = true → s.ppu.wait = 0 →
    let t := s.ppuDot
    (s.ppu.mode = .hBlank → s.lcd.ly ≠ 143 →
      t.lcd.ly = s.lcd.ly + 1 ∧ t.ppu.mode = .oamScan ∧ t.lcd.statMode = .oamScan ∧ t.ppu.lineDot = 0 ∧
        t.intFlag.getLsbD 0 = s.intFlag.getLsbD 0) ∧
    (s.ppu.mode = .hBlank →
      t.ppu.winLine = (if s.ppu.winActive then s.ppu.winLine + 1 else s.ppu.winLine) ∧
        t.ppu.oamLock = false ∧ t.ppu.vramLock = false ∧ t.ppu.palLock = false) ∧
    (s.ppu.mode = .hBlank → s.lcd.ly = 143 →
      t.lcd.ly = 144 ∧ t.ppu.mode = .vBlank ∧ t.lcd.statMode = .vBlank ∧ t.ppu.wait = 455 ∧
        t.ppu.lineDot = 0 ∧ t.intFlag.getLsbD 0 = true) ∧
    (s.ppu.mode = .vBlank → s.lcd.ly ≠ 153 →
      t.lcd.ly = s.lcd.ly + 1 ∧ t.ppu.winLine = s.ppu.winLine ∧ t.ppu.mode = .vBlank ∧ t.ppu.wait = 455 ∧
        t.ppu.lineDot = 0 ∧ t.intFlag.getLsbD 0 = s.intFlag.getLsbD 0) ∧
    (s.ppu.mode = .vBlank → s.lcd.ly = 153 →
      t.lcd.ly = 0 ∧ t.ppu.winLine = 0 ∧ t.ppu.mode = .oamScan ∧ t.ppu.lineDot = 0 ∧
        t.intFlag.getLsbD 0 = s.intFlag.getLsbD 0)

/-- R1320, R1321, R1322, R1300: the OAM scan, each dot as the whole state it leaves. At its first dot the
latches, the lock, and the sprites whose rows meet the line, the first `MaxSpritesPerLine` in OAM order; while
it waits the countdown alone; at its last dot mode 3 with VRAM and the palettes locked, and the first draw dot,
which from an empty background FIFO pushes a tile and draws nothing. -/
def Obligations.PpuOamScan : Prop :=
  ∀ s : State, s.lcd.lcdc.getLsbD 7 = true → s.ppu.lcdWasOn = true → s.ppu.mode = .oamScan →
    let t := s.ppuDot
    let meets (k : Fin 40) : Prop :=
      (s.mem.read (0xFE00 + 4 * k.val)).toNat ≤ s.lcd.ly.toNat + 16 ∧
        s.lcd.ly.toNat + 16 <
          (s.mem.read (0xFE00 + 4 * k.val)).toNat + (if s.lcd.lcdc.getLsbD 2 then 16 else 8)
    (s.ppu.wait = 0 → s.ppu.scanDone = false →
      t = State.updateLcdRegs
        { s with
          ppu := { s.ppu with
            x := 0, fetchX := 0, bgFifo := [], objFifo := [], winActive := false
            bgRow := s.lcd.scy + s.lcd.ly, scxLatch := s.lcd.scx, discard := s.lcd.scx.toNat % 8
            oamLock := true, sprites := t.ppu.sprites, scanDone := true, wait := 78
            lineDot := s.ppu.lineDot + 1 } } ∧
      t.ppu.sprites.length ≤ s.params.maxSpritesPerLine ∧
      t.ppu.sprites.Pairwise (fun a b => a.index < b.index) ∧
      (∀ k ∈ t.ppu.sprites, k.fetched = false ∧ meets k.index) ∧
      (∀ k : Fin 40, meets k →
        (⟨k, false⟩ : SpriteSlot) ∈ t.ppu.sprites ∨
          (t.ppu.sprites.length = s.params.maxSpritesPerLine ∧ ∀ j ∈ t.ppu.sprites, j.index < k))) ∧
    (0 < s.ppu.wait →
      t = State.updateLcdRegs
        { s with ppu := { s.ppu with wait := s.ppu.wait - 1, lineDot := s.ppu.lineDot + 1 } }) ∧
    (s.ppu.wait = 0 → s.ppu.scanDone = true →
      let d := State.drawDot
        { s with ppu := { s.ppu with scanDone := false, mode := .drawPixels, vramLock := true, palLock := true } }
      t = State.updateLcdRegs { d with ppu := { d.ppu with lineDot := d.ppu.lineDot + 1 } } ∧
      (s.ppu.bgFifo = [] →
        t.ppu.mode = .drawPixels ∧ t.ppu.scanDone = false ∧ t.ppu.vramLock = true ∧ t.ppu.palLock = true ∧
          t.ppu.oamLock = s.ppu.oamLock ∧ t.ppu.bgFifo.length = 8 ∧ t.ppu.x = s.ppu.x ∧ t.fb = s.fb ∧
          t.lcd.statMode = .drawPixels))

/-- R1330, R1331: the first dot with the LCD off clears LY, the mode, the line and the locks; while it is off no
line advances and no interrupt is requested; the first dot with it on again is dot 0 of line 0, and requests
nothing. -/
def Obligations.LcdOffOn : Prop :=
  ∀ s : State,
    (s.lcd.lcdc.getLsbD 7 = false → s.ppu.lcdWasOn = true →
      let t := s.ppuDot
      t.lcd.ly = 0 ∧ t.lcd.statMode = .hBlank ∧ t.ppu.mode = .hBlank ∧ t.ppu.lineDot = 0 ∧ t.ppu.wait = 0 ∧
        t.ppu.lcdWasOn = false ∧ t.ppu.scanDone = false ∧ t.ppu.winActive = false ∧ t.ppu.winLine = 0 ∧
        t.ppu.oamLock = false ∧ t.ppu.vramLock = false ∧ t.ppu.palLock = false ∧
        t.intFlag = s.intFlag ∧ t.fb = s.fb) ∧
    (s.lcd.lcdc.getLsbD 7 = false → s.ppu.lcdWasOn = false →
      let t := s.ppuDot
      t.lcd.ly = s.lcd.ly ∧ t.ppu.mode = s.ppu.mode ∧ t.ppu.lineDot = s.ppu.lineDot ∧
        t.intFlag = s.intFlag ∧ t.fb = s.fb ∧ t.mem = s.mem ∧ t.ppu.oamLock = s.ppu.oamLock ∧
        t.ppu.vramLock = s.ppu.vramLock ∧ t.ppu.palLock = s.ppu.palLock) ∧
    (s.lcd.lcdc.getLsbD 7 = true → s.ppu.lcdWasOn = false →
      let t := s.ppuDot
      t.lcd.ly = 0 ∧ t.ppu.mode = .oamScan ∧ t.ppu.scanDone = true ∧ t.ppu.wait = 78 ∧ t.ppu.lineDot = 1 ∧
        t.ppu.lcdWasOn = true ∧ t.ppu.lcdJustOn = false ∧ t.ppu.oamLock = true ∧ t.intFlag = s.intFlag)

/-- R1300, R1310, R1311: every dot ends with the update of the LCD registers, made from the state the dot's phase
leaves: with the LCD off the off state (R1330); with it on, turned on first where it was off (R1331), the wait
counted down, or the mode's phase function run once, and `line_dot` raised, or 0 after a line's last phase. The
update is STAT's mode and coincidence, and at most the LCD/STAT request, by the event or the line condition. -/
def Obligations.StatUpdate : Prop :=
  (∀ s : State,
    (s.lcd.lcdc.getLsbD 7 = false →
      s.ppuDot = State.updateLcdRegs (if s.ppu.lcdWasOn then s.lcdTurnOff else s)) ∧
    (s.lcd.lcdc.getLsbD 7 = true →
      let on := if s.ppu.lcdWasOn then s else s.lcdOnDot
      let phase : State :=
        if on.ppu.wait > 0 then { on with ppu := { on.ppu with wait := on.ppu.wait - 1 } }
        else
          match on.ppu.mode with
          | .oamScan => on.oamPhase
          | .drawPixels => on.drawDot
          | .hBlank => on.hBlankPhase
          | .vBlank => on.vBlankPhase
      let ended : Bool := on.ppu.wait = 0 ∧ (on.ppu.mode = .hBlank ∨ on.ppu.mode = .vBlank)
      s.ppuDot =
        State.updateLcdRegs
          { phase with ppu := { phase.ppu with lineDot := if ended then 0 else phase.ppu.lineDot + 1 } })) ∧
  ∀ s : State,
    let t := s.updateLcdRegs
    let coinc := decide (s.lcd.ly = s.lcd.lyc)
    let en (k : Nat) : Bool := s.lcd.statEnable.getLsbD k
    let entered (m : Mode) : Bool := decide (s.ppu.mode = m) && decide (s.ppu.prevMode ≠ m)
    let event := (en 0 && entered .hBlank) || (en 1 && entered .vBlank) || (en 2 && entered .oamScan) ||
      (en 3 && coinc && !s.ppu.prevCoinc)
    let line := (en 3 && coinc) || (en 0 && decide (s.ppu.mode = .hBlank)) ||
      (en 1 && decide (s.ppu.mode = .vBlank)) || (en 2 && decide (s.ppu.mode = .oamScan))
    let fires := if s.params.statIrqModel = .event then event else line && !s.ppu.prevLine
    let asked := fires && s.lcd.lcdc.getLsbD 7 && s.ppu.lcdWasOn && !s.ppu.lcdJustOn
    t = { s with
      lcd := { s.lcd with statMode := s.ppu.mode, statCoinc := coinc }
      ppu := { s.ppu with prevMode := s.ppu.mode, prevCoinc := coinc, prevLine := line, lcdJustOn := false }
      intFlag := if asked then s.intFlag ||| 0b00010 else s.intFlag }

/-- R1340, R1341, R1342, R1344: the tile fetch, none when the background FIFO may not push; when it may: the map
byte at the latched row and column (the window's own when it is active) names a tile, unsigned from 0x8000 or
signed from 0x9000; its row's two bytes give 8 entries, leftmost first, each with its colour and the shade BGP
gives it. -/
def Obligations.TileFetch : Prop :=
  (∀ s : State, 8 < s.ppu.bgFifo.length → s.pushTile = s) ∧
  ∀ s : State, s.ppu.bgFifo.length ≤ 8 →
    let lcdc (k : Nat) : Bool := s.lcd.lcdc.getLsbD k
    let row := if s.ppu.winActive then s.ppu.winLine.toNat else s.ppu.bgRow.toNat
    let col := if s.ppu.winActive then s.ppu.fetchX % 32 else (s.ppu.scxLatch.toNat / 8 + s.ppu.fetchX) % 32
    let map := if (if s.ppu.winActive then lcdc 6 else lcdc 3) then 0x9C00 else 0x9800
    let id := s.mem.read (map + 32 * (row / 8) + col)
    let tile : Nat :=
      if lcdc 4 then 0x8000 + 16 * id.toNat
      else if id.toNat < 0x80 then 0x9000 + 16 * id.toNat else 0x8800 + 16 * (id.toNat - 0x80)
    let lo := s.mem.read (tile + 2 * (row % 8))
    let hi := s.mem.read (tile + 2 * (row % 8) + 1)
    ∃ fresh : List BgPixel,
      s.pushTile = { s with ppu := { s.ppu with bgFifo := s.ppu.bgFifo ++ fresh, fetchX := s.ppu.fetchX + 1 } } ∧
      fresh.length = 8 ∧
      ∀ k : Nat, k < 8 → ∃ e : BgPixel, fresh[k]? = some e ∧
        e.colour.getLsbD 1 = hi.getLsbD (7 - k) ∧ e.colour.getLsbD 0 = lo.getLsbD (7 - k) ∧
        e.shade.getLsbD 1 = s.lcd.bgp.getLsbD (2 * e.colour.toNat + 1) ∧
        e.shade.getLsbD 0 = s.lcd.bgp.getLsbD (2 * e.colour.toNat)

/-- R1350, R1351, R1352: before an output pixel at column x, the selected sprites not yet fetched whose left
edge is there, or lies left of the screen when x is 0, are marked fetched, and in list order the row of each,
without its part left of the screen, is merged into the sprite FIFO; nothing else changes. A sprite's row: 8
transparent entries when the line misses it, else 8 entries with the flips, the 8×16 pairing, the palette and
the priority its attribute byte names, colour 0 transparent; the merge is position by position, an entry already
there that is not transparent staying. -/
def Obligations.SpriteFetch : Prop :=
  (∀ s : State,
    let xByte (k : SpriteSlot) : Nat := (s.mem.read (0xFE00 + 4 * k.index.val + 1)).toNat
    let starts (k : SpriteSlot) : Bool :=
      !k.fetched &&
        (decide (xByte k = s.ppu.x + 8) || decide (s.ppu.x = 0 ∧ 1 ≤ xByte k ∧ xByte k ≤ 7))
    let shown (k : SpriteSlot) : List ObjPixel :=
      (s.spriteRow k.index).drop (if xByte k < 8 then 8 - xByte k else 0)
    s.fetchSprites =
      { s with
        ppu := { s.ppu with
          sprites := s.ppu.sprites.map fun k => if starts k then { k with fetched := true } else k
          objFifo := ((s.ppu.sprites.filter starts).map shown).foldl mergeSprite s.ppu.objFifo } }) ∧
  (∀ (s : State) (k : Fin 40),
    let byte (j : Nat) : Byte := s.mem.read (0xFE00 + 4 * k.val + j)
    let attr := byte 3
    let h := if s.lcd.lcdc.getLsbD 2 then 16 else 8
    (byte 0).toNat ≤ s.lcd.ly.toNat + 16 → s.lcd.ly.toNat + 16 < (byte 0).toNat + h →
    let r0 := s.lcd.ly.toNat + 16 - (byte 0).toNat
    let r := if attr.getLsbD 6 then h - 1 - r0 else r0
    let tile := if s.lcd.lcdc.getLsbD 2 then 2 * ((byte 2).toNat / 2) else (byte 2).toNat
    let lo := s.mem.read (0x8000 + 16 * tile + 2 * r)
    let hi := s.mem.read (0x8000 + 16 * tile + 2 * r + 1)
    let pal := if attr.getLsbD 4 then s.lcd.obp1 else s.lcd.obp0
    (s.spriteRow k).length = 8 ∧
    ∀ i : Nat, i < 8 → ∃ e : ObjPixel, (s.spriteRow k)[i]? = some e ∧
      e.colour.getLsbD 1 = hi.getLsbD (if attr.getLsbD 5 then i else 7 - i) ∧
      e.colour.getLsbD 0 = lo.getLsbD (if attr.getLsbD 5 then i else 7 - i) ∧
      e.shade.getLsbD 1 = pal.getLsbD (2 * e.colour.toNat + 1) ∧
      e.shade.getLsbD 0 = pal.getLsbD (2 * e.colour.toNat) ∧
      e.priority = attr.getLsbD 7 ∧ e.transparent = decide (e.colour = 0)) ∧
  (∀ (s : State) (k : Fin 40),
    let y := (s.mem.read (0xFE00 + 4 * k.val)).toNat
    let h := if s.lcd.lcdc.getLsbD 2 then 16 else 8
    s.lcd.ly.toNat + 16 < y ∨ y + h ≤ s.lcd.ly.toNat + 16 →
      (s.spriteRow k).length = 8 ∧ ∀ e ∈ s.spriteRow k, e.transparent = true) ∧
  (∀ (q p : List ObjPixel) (k : Nat),
    (mergeSprite q p)[k]? =
      (match q[k]?, p[k]? with
        | none, e => e
        | some e, none => some e
        | some e, some f => some (if e.transparent then f else e)))

/-- R1340, R1343, R1344, R1345, R1355, R1356, R1323: a draw dot is the window check, the push and the pop. The
window starts at the first dot of a line at which it is enabled and both scroll conditions hold: the background
FIFO is emptied, the fetcher begins at the window's own column 0, and 7 - WX pixels will be discarded when WX is
below 7. No pop while the background FIFO may not; a fine-scroll discard pops it and does nothing else. One
output pixel, when it may pop and no discard is left: it is written at row LY, column x, and is the sprite's
shade when sprites are shown and its pixel is not transparent, unless the priority bit is honoured and set over
a background colour other than 0; else the background's shade, which is 0 when the background is off. The line's
last pixel ends mode 3. -/
def Obligations.PixelOutput : Prop :=
  (∀ s : State,
    let starts : Prop :=
      s.ppu.winActive = false ∧ s.lcd.lcdc.getLsbD 5 = true ∧ s.lcd.wy.toNat ≤ s.lcd.ly.toNat ∧
        s.lcd.wx.toNat ≤ s.ppu.x + 7
    s.drawDot = s.windowCheck.pushTile.popPixel ∧
    (starts →
      s.windowCheck =
        { s with
          ppu := { s.ppu with
            winActive := true, bgFifo := [], fetchX := 0
            discard := if s.lcd.wx.toNat < 7 then 7 - s.lcd.wx.toNat else 0 } }) ∧
    (¬starts → s.windowCheck = s) ∧
    (s.ppu.bgFifo.length ≤ 8 → s.popPixel = s) ∧
    (8 < s.ppu.bgFifo.length → 0 < s.ppu.discard →
      s.popPixel =
        { s with ppu := { s.ppu with bgFifo := s.ppu.bgFifo.drop 1, discard := s.ppu.discard - 1 } })) ∧
  ∀ (s : State) (b : BgPixel) (bs : List BgPixel),
    s.ppu.bgFifo = b :: bs → 8 ≤ bs.length → s.ppu.discard = 0 → s.lcd.ly.toNat < 144 → s.ppu.x < 160 →
    let bg : BgPixel := if s.lcd.lcdc.getLsbD 0 then b else ⟨0, 0⟩
    let objs := s.fetchSprites.ppu.objFifo
    let shade : Shade :=
      match objs with
      | [] => bg.shade
      | o :: _ =>
        if s.lcd.lcdc.getLsbD 1 = true ∧ o.transparent = false ∧
            ¬(s.params.objPriorityHonoured = true ∧ o.priority = true ∧ bg.colour ≠ 0) then o.shade
        else bg.shade
    let t := s.popPixel
    t.fb.read s.lcd.ly.toNat s.ppu.x = shade ∧
    (∀ y x : Nat, x < 160 → (y ≠ s.lcd.ly.toNat ∨ x ≠ s.ppu.x) → t.fb.read y x = s.fb.read y x) ∧
    t.ppu.bgFifo = bs ∧ t.ppu.objFifo = objs.tail ∧ t.ppu.sprites = s.fetchSprites.ppu.sprites ∧
    t.ppu.x = s.ppu.x + 1 ∧ t.mem = s.mem ∧ t.lcd = s.lcd ∧ t.intFlag = s.intFlag ∧
    (s.ppu.x = 159 →
      t.ppu.mode = .hBlank ∧ t.ppu.wait = 454 - s.ppu.lineDot ∧ t.ppu.oamLock = false ∧
        t.ppu.vramLock = false ∧ t.ppu.palLock = false) ∧
    (s.ppu.x ≠ 159 → t.ppu.mode = s.ppu.mode ∧ t.ppu.wait = s.ppu.wait)

end
end

