-- ==== Sys2Proof/Laws/Bits.lean ====
section
/-!
SUPPORT. The laws of byte order: a word is its two bytes.
-/

namespace Sys2Proof

/-- Bit i of a word made of two bytes. -/
theorem wordOf_bit (h l : Byte) (i : Nat) :
    (wordOf h l).getLsbD i = if i < 8 then l.getLsbD i else h.getLsbD (i - 8) := by
  have := BitVec.getLsbD_append (x := h) (y := l) (i := i)
  simpa [wordOf] using this

@[simp] theorem wordOf_bytes (v : Word) : wordOf (hiByte v) (loByte v) = v := by
  apply BitVec.eq_of_getLsbD_eq
  intro i hi
  rw [wordOf_bit]
  simp only [hiByte, loByte, BitVec.getLsbD_extractLsb']
  by_cases h : i < 8
  · simp [h]
  · have h' : i - 8 < 8 := by omega
    have h'' : 8 + (i - 8) = i := by omega
    simp only [h, h', h'', if_false, decide_true, Bool.true_and]

@[simp] theorem hiByte_wordOf (h l : Byte) : hiByte (wordOf h l) = h := by
  apply BitVec.eq_of_getLsbD_eq
  intro i hi
  rw [hiByte, BitVec.getLsbD_extractLsb', wordOf_bit]
  simp [hi]

@[simp] theorem loByte_wordOf (h l : Byte) : loByte (wordOf h l) = l := by
  apply BitVec.eq_of_getLsbD_eq
  intro i hi
  rw [loByte, BitVec.getLsbD_extractLsb', wordOf_bit]
  simp [hi]

theorem wordOf_toNat (h l : Byte) : (wordOf h l).toNat = 256 * h.toNat + l.toNat := by
  have h1 : (wordOf h l).toNat = h.toNat <<< 8 ||| l.toNat := BitVec.toNat_append h l
  rw [h1, ← Nat.shiftLeft_add_eq_or_of_lt l.isLt, Nat.shiftLeft_eq]
  omega

/-- The address in page 0xFF of a byte offset. -/
theorem wordOf_page (n : Byte) : wordOf 0xFF n = 0xFF00 + n.setWidth 16 := by
  apply BitVec.eq_of_toNat_eq
  have := n.isLt
  rw [wordOf_toNat, BitVec.toNat_add, BitVec.toNat_setWidth]
  simp
  omega

theorem hiByte_toNat (v : Word) : (hiByte v).toNat = v.toNat / 256 := by
  have := v.isLt
  simp [hiByte, BitVec.extractLsb'_toNat, Nat.shiftRight_eq_div_pow]
  omega

theorem loByte_toNat (v : Word) : (loByte v).toNat = v.toNat % 256 := by
  simp [loByte, BitVec.extractLsb'_toNat]

/-- Adding a sign-extended byte is adding the signed byte (R10). -/
theorem add_sext16 (v : Word) (e : Byte) :
    v + sext16 e = BitVec.ofInt 16 ((v.toNat : Int) + signed8 e) := by
  apply BitVec.eq_of_toInt_eq
  have h : (e.signExtend 16).toInt = e.toInt := BitVec.toInt_signExtend_of_le (by decide)
  simp only [sext16, signed8, BitVec.toInt_add, BitVec.toInt_ofInt, h]
  have h1 : (v.toNat : Int) = v.toInt + if v.toNat < 32768 then 0 else 65536 := by
    rw [BitVec.toInt_eq_toNat_cond]
    split <;> split <;> omega
  rw [h1]
  split
  · simp
  · rw [show v.toInt + 65536 + e.toInt = v.toInt + e.toInt + 65536 by omega]
    exact (Int.add_bmod_right _ 65536).symm

/-- The values of a 3-bit field. -/
theorem three_bits (y : BitVec 3) :
    y = 0 ∨ y = 1 ∨ y = 2 ∨ y = 3 ∨ y = 4 ∨ y = 5 ∨ y = 6 ∨ y = 7 := by
  revert y
  decide

/-- The values of a 2-bit field. -/
theorem two_bits (x : BitVec 2) : x = 0 ∨ x = 1 ∨ x = 2 ∨ x = 3 := by
  revert x
  decide

/-- A byte is a number below 256. -/
theorem byte_cases (b : Byte) : ∃ n : Nat, n < 256 ∧ b = BitVec.ofNat 8 n :=
  ⟨b.toNat, b.isLt, by simp⟩

end Sys2Proof
end

