-- ==== Sys2Proof/Laws/State.lean ====
section
/-!
SUPPORT. One lemma for each field of State and each update of it: what an update leaves as it was. They are
simp lemmas, so no later proof unfolds a record update.
-/

namespace Sys2Proof.Machine

/-! ### setReg -/

@[simp] theorem State.setReg_ctl (s : State) (r : Reg8) (v : Byte) : (s.setReg r v).ctl = s.ctl := by cases r <;> rfl
@[simp] theorem State.setReg_intFlag (s : State) (r : Reg8) (v : Byte) : (s.setReg r v).intFlag = s.intFlag := by cases r <;> rfl
@[simp] theorem State.setReg_intEnable (s : State) (r : Reg8) (v : Byte) : (s.setReg r v).intEnable = s.intEnable := by cases r <;> rfl
@[simp] theorem State.setReg_lcd (s : State) (r : Reg8) (v : Byte) : (s.setReg r v).lcd = s.lcd := by cases r <;> rfl
@[simp] theorem State.setReg_ppu (s : State) (r : Reg8) (v : Byte) : (s.setReg r v).ppu = s.ppu := by cases r <;> rfl
@[simp] theorem State.setReg_dma (s : State) (r : Reg8) (v : Byte) : (s.setReg r v).dma = s.dma := by cases r <;> rfl
@[simp] theorem State.setReg_timer (s : State) (r : Reg8) (v : Byte) : (s.setReg r v).timer = s.timer := by cases r <;> rfl
@[simp] theorem State.setReg_joypad (s : State) (r : Reg8) (v : Byte) : (s.setReg r v).joypad = s.joypad := by cases r <;> rfl
@[simp] theorem State.setReg_serial (s : State) (r : Reg8) (v : Byte) : (s.setReg r v).serial = s.serial := by cases r <;> rfl
@[simp] theorem State.setReg_others (s : State) (r : Reg8) (v : Byte) : (s.setReg r v).others = s.others := by cases r <;> rfl
@[simp] theorem State.setReg_mem (s : State) (r : Reg8) (v : Byte) : (s.setReg r v).mem = s.mem := by cases r <;> rfl
@[simp] theorem State.setReg_fb (s : State) (r : Reg8) (v : Byte) : (s.setReg r v).fb = s.fb := by cases r <;> rfl
@[simp] theorem State.setReg_params (s : State) (r : Reg8) (v : Byte) : (s.setReg r v).params = s.params := by cases r <;> rfl
@[simp] theorem State.setReg_hostInputs (s : State) (r : Reg8) (v : Byte) : (s.setReg r v).hostInputs = s.hostInputs := by cases r <;> rfl
@[simp] theorem State.setReg_draws (s : State) (r : Reg8) (v : Byte) : (s.setReg r v).draws = s.draws := by cases r <;> rfl

/-! ### setF -/

@[simp] theorem State.setF_ctl (s : State) (v : Byte) : (s.setF v).ctl = s.ctl := rfl
@[simp] theorem State.setF_intFlag (s : State) (v : Byte) : (s.setF v).intFlag = s.intFlag := rfl
@[simp] theorem State.setF_intEnable (s : State) (v : Byte) : (s.setF v).intEnable = s.intEnable := rfl
@[simp] theorem State.setF_lcd (s : State) (v : Byte) : (s.setF v).lcd = s.lcd := rfl
@[simp] theorem State.setF_ppu (s : State) (v : Byte) : (s.setF v).ppu = s.ppu := rfl
@[simp] theorem State.setF_dma (s : State) (v : Byte) : (s.setF v).dma = s.dma := rfl
@[simp] theorem State.setF_timer (s : State) (v : Byte) : (s.setF v).timer = s.timer := rfl
@[simp] theorem State.setF_joypad (s : State) (v : Byte) : (s.setF v).joypad = s.joypad := rfl
@[simp] theorem State.setF_serial (s : State) (v : Byte) : (s.setF v).serial = s.serial := rfl
@[simp] theorem State.setF_others (s : State) (v : Byte) : (s.setF v).others = s.others := rfl
@[simp] theorem State.setF_mem (s : State) (v : Byte) : (s.setF v).mem = s.mem := rfl
@[simp] theorem State.setF_fb (s : State) (v : Byte) : (s.setF v).fb = s.fb := rfl
@[simp] theorem State.setF_params (s : State) (v : Byte) : (s.setF v).params = s.params := rfl
@[simp] theorem State.setF_hostInputs (s : State) (v : Byte) : (s.setF v).hostInputs = s.hostInputs := rfl
@[simp] theorem State.setF_draws (s : State) (v : Byte) : (s.setF v).draws = s.draws := rfl

/-! ### setPc -/

@[simp] theorem State.setPc_ctl (s : State) (v : Word) : (s.setPc v).ctl = s.ctl := rfl
@[simp] theorem State.setPc_intFlag (s : State) (v : Word) : (s.setPc v).intFlag = s.intFlag := rfl
@[simp] theorem State.setPc_intEnable (s : State) (v : Word) : (s.setPc v).intEnable = s.intEnable := rfl
@[simp] theorem State.setPc_lcd (s : State) (v : Word) : (s.setPc v).lcd = s.lcd := rfl
@[simp] theorem State.setPc_ppu (s : State) (v : Word) : (s.setPc v).ppu = s.ppu := rfl
@[simp] theorem State.setPc_dma (s : State) (v : Word) : (s.setPc v).dma = s.dma := rfl
@[simp] theorem State.setPc_timer (s : State) (v : Word) : (s.setPc v).timer = s.timer := rfl
@[simp] theorem State.setPc_joypad (s : State) (v : Word) : (s.setPc v).joypad = s.joypad := rfl
@[simp] theorem State.setPc_serial (s : State) (v : Word) : (s.setPc v).serial = s.serial := rfl
@[simp] theorem State.setPc_others (s : State) (v : Word) : (s.setPc v).others = s.others := rfl
@[simp] theorem State.setPc_mem (s : State) (v : Word) : (s.setPc v).mem = s.mem := rfl
@[simp] theorem State.setPc_fb (s : State) (v : Word) : (s.setPc v).fb = s.fb := rfl
@[simp] theorem State.setPc_params (s : State) (v : Word) : (s.setPc v).params = s.params := rfl
@[simp] theorem State.setPc_hostInputs (s : State) (v : Word) : (s.setPc v).hostInputs = s.hostInputs := rfl
@[simp] theorem State.setPc_draws (s : State) (v : Word) : (s.setPc v).draws = s.draws := rfl

/-! ### setSp -/

@[simp] theorem State.setSp_ctl (s : State) (v : Word) : (s.setSp v).ctl = s.ctl := rfl
@[simp] theorem State.setSp_intFlag (s : State) (v : Word) : (s.setSp v).intFlag = s.intFlag := rfl
@[simp] theorem State.setSp_intEnable (s : State) (v : Word) : (s.setSp v).intEnable = s.intEnable := rfl
@[simp] theorem State.setSp_lcd (s : State) (v : Word) : (s.setSp v).lcd = s.lcd := rfl
@[simp] theorem State.setSp_ppu (s : State) (v : Word) : (s.setSp v).ppu = s.ppu := rfl
@[simp] theorem State.setSp_dma (s : State) (v : Word) : (s.setSp v).dma = s.dma := rfl
@[simp] theorem State.setSp_timer (s : State) (v : Word) : (s.setSp v).timer = s.timer := rfl
@[simp] theorem State.setSp_joypad (s : State) (v : Word) : (s.setSp v).joypad = s.joypad := rfl
@[simp] theorem State.setSp_serial (s : State) (v : Word) : (s.setSp v).serial = s.serial := rfl
@[simp] theorem State.setSp_others (s : State) (v : Word) : (s.setSp v).others = s.others := rfl
@[simp] theorem State.setSp_mem (s : State) (v : Word) : (s.setSp v).mem = s.mem := rfl
@[simp] theorem State.setSp_fb (s : State) (v : Word) : (s.setSp v).fb = s.fb := rfl
@[simp] theorem State.setSp_params (s : State) (v : Word) : (s.setSp v).params = s.params := rfl
@[simp] theorem State.setSp_hostInputs (s : State) (v : Word) : (s.setSp v).hostInputs = s.hostInputs := rfl
@[simp] theorem State.setSp_draws (s : State) (v : Word) : (s.setSp v).draws = s.draws := rfl

/-! ### setPair -/

@[simp] theorem State.setPair_ctl (s : State) (p : Reg16) (v : Word) : (s.setPair p v).ctl = s.ctl := by cases p <;> rfl
@[simp] theorem State.setPair_intFlag (s : State) (p : Reg16) (v : Word) : (s.setPair p v).intFlag = s.intFlag := by cases p <;> rfl
@[simp] theorem State.setPair_intEnable (s : State) (p : Reg16) (v : Word) : (s.setPair p v).intEnable = s.intEnable := by cases p <;> rfl
@[simp] theorem State.setPair_lcd (s : State) (p : Reg16) (v : Word) : (s.setPair p v).lcd = s.lcd := by cases p <;> rfl
@[simp] theorem State.setPair_ppu (s : State) (p : Reg16) (v : Word) : (s.setPair p v).ppu = s.ppu := by cases p <;> rfl
@[simp] theorem State.setPair_dma (s : State) (p : Reg16) (v : Word) : (s.setPair p v).dma = s.dma := by cases p <;> rfl
@[simp] theorem State.setPair_timer (s : State) (p : Reg16) (v : Word) : (s.setPair p v).timer = s.timer := by cases p <;> rfl
@[simp] theorem State.setPair_joypad (s : State) (p : Reg16) (v : Word) : (s.setPair p v).joypad = s.joypad := by cases p <;> rfl
@[simp] theorem State.setPair_serial (s : State) (p : Reg16) (v : Word) : (s.setPair p v).serial = s.serial := by cases p <;> rfl
@[simp] theorem State.setPair_others (s : State) (p : Reg16) (v : Word) : (s.setPair p v).others = s.others := by cases p <;> rfl
@[simp] theorem State.setPair_mem (s : State) (p : Reg16) (v : Word) : (s.setPair p v).mem = s.mem := by cases p <;> rfl
@[simp] theorem State.setPair_fb (s : State) (p : Reg16) (v : Word) : (s.setPair p v).fb = s.fb := by cases p <;> rfl
@[simp] theorem State.setPair_params (s : State) (p : Reg16) (v : Word) : (s.setPair p v).params = s.params := by cases p <;> rfl
@[simp] theorem State.setPair_hostInputs (s : State) (p : Reg16) (v : Word) : (s.setPair p v).hostInputs = s.hostInputs := by cases p <;> rfl
@[simp] theorem State.setPair_draws (s : State) (p : Reg16) (v : Word) : (s.setPair p v).draws = s.draws := by cases p <;> rfl

/-! ### setStk -/

@[simp] theorem State.setStk_ctl (s : State) (p : RegStk) (v : Word) : (s.setStk p v).ctl = s.ctl := by cases p <;> rfl
@[simp] theorem State.setStk_intFlag (s : State) (p : RegStk) (v : Word) : (s.setStk p v).intFlag = s.intFlag := by cases p <;> rfl
@[simp] theorem State.setStk_intEnable (s : State) (p : RegStk) (v : Word) : (s.setStk p v).intEnable = s.intEnable := by cases p <;> rfl
@[simp] theorem State.setStk_lcd (s : State) (p : RegStk) (v : Word) : (s.setStk p v).lcd = s.lcd := by cases p <;> rfl
@[simp] theorem State.setStk_ppu (s : State) (p : RegStk) (v : Word) : (s.setStk p v).ppu = s.ppu := by cases p <;> rfl
@[simp] theorem State.setStk_dma (s : State) (p : RegStk) (v : Word) : (s.setStk p v).dma = s.dma := by cases p <;> rfl
@[simp] theorem State.setStk_timer (s : State) (p : RegStk) (v : Word) : (s.setStk p v).timer = s.timer := by cases p <;> rfl
@[simp] theorem State.setStk_joypad (s : State) (p : RegStk) (v : Word) : (s.setStk p v).joypad = s.joypad := by cases p <;> rfl
@[simp] theorem State.setStk_serial (s : State) (p : RegStk) (v : Word) : (s.setStk p v).serial = s.serial := by cases p <;> rfl
@[simp] theorem State.setStk_others (s : State) (p : RegStk) (v : Word) : (s.setStk p v).others = s.others := by cases p <;> rfl
@[simp] theorem State.setStk_mem (s : State) (p : RegStk) (v : Word) : (s.setStk p v).mem = s.mem := by cases p <;> rfl
@[simp] theorem State.setStk_fb (s : State) (p : RegStk) (v : Word) : (s.setStk p v).fb = s.fb := by cases p <;> rfl
@[simp] theorem State.setStk_params (s : State) (p : RegStk) (v : Word) : (s.setStk p v).params = s.params := by cases p <;> rfl
@[simp] theorem State.setStk_hostInputs (s : State) (p : RegStk) (v : Word) : (s.setStk p v).hostInputs = s.hostInputs := by cases p <;> rfl
@[simp] theorem State.setStk_draws (s : State) (p : RegStk) (v : Word) : (s.setStk p v).draws = s.draws := by cases p <;> rfl

/-! ### merge -/

@[simp] theorem State.merge_ctl {n : Nat} (s : State) (r : AluResult n) : (s.merge r).ctl = s.ctl := rfl
@[simp] theorem State.merge_intFlag {n : Nat} (s : State) (r : AluResult n) : (s.merge r).intFlag = s.intFlag := rfl
@[simp] theorem State.merge_intEnable {n : Nat} (s : State) (r : AluResult n) : (s.merge r).intEnable = s.intEnable := rfl
@[simp] theorem State.merge_lcd {n : Nat} (s : State) (r : AluResult n) : (s.merge r).lcd = s.lcd := rfl
@[simp] theorem State.merge_ppu {n : Nat} (s : State) (r : AluResult n) : (s.merge r).ppu = s.ppu := rfl
@[simp] theorem State.merge_dma {n : Nat} (s : State) (r : AluResult n) : (s.merge r).dma = s.dma := rfl
@[simp] theorem State.merge_timer {n : Nat} (s : State) (r : AluResult n) : (s.merge r).timer = s.timer := rfl
@[simp] theorem State.merge_joypad {n : Nat} (s : State) (r : AluResult n) : (s.merge r).joypad = s.joypad := rfl
@[simp] theorem State.merge_serial {n : Nat} (s : State) (r : AluResult n) : (s.merge r).serial = s.serial := rfl
@[simp] theorem State.merge_others {n : Nat} (s : State) (r : AluResult n) : (s.merge r).others = s.others := rfl
@[simp] theorem State.merge_mem {n : Nat} (s : State) (r : AluResult n) : (s.merge r).mem = s.mem := rfl
@[simp] theorem State.merge_fb {n : Nat} (s : State) (r : AluResult n) : (s.merge r).fb = s.fb := rfl
@[simp] theorem State.merge_params {n : Nat} (s : State) (r : AluResult n) : (s.merge r).params = s.params := rfl
@[simp] theorem State.merge_hostInputs {n : Nat} (s : State) (r : AluResult n) : (s.merge r).hostInputs = s.hostInputs := rfl
@[simp] theorem State.merge_draws {n : Nat} (s : State) (r : AluResult n) : (s.merge r).draws = s.draws := rfl

/-! ### stepHl -/

@[simp] theorem State.stepHl_ctl (s : State) (m : RegMem) : (s.stepHl m).ctl = s.ctl := by cases m <;> rfl
@[simp] theorem State.stepHl_intFlag (s : State) (m : RegMem) : (s.stepHl m).intFlag = s.intFlag := by cases m <;> rfl
@[simp] theorem State.stepHl_intEnable (s : State) (m : RegMem) : (s.stepHl m).intEnable = s.intEnable := by cases m <;> rfl
@[simp] theorem State.stepHl_lcd (s : State) (m : RegMem) : (s.stepHl m).lcd = s.lcd := by cases m <;> rfl
@[simp] theorem State.stepHl_ppu (s : State) (m : RegMem) : (s.stepHl m).ppu = s.ppu := by cases m <;> rfl
@[simp] theorem State.stepHl_dma (s : State) (m : RegMem) : (s.stepHl m).dma = s.dma := by cases m <;> rfl
@[simp] theorem State.stepHl_timer (s : State) (m : RegMem) : (s.stepHl m).timer = s.timer := by cases m <;> rfl
@[simp] theorem State.stepHl_joypad (s : State) (m : RegMem) : (s.stepHl m).joypad = s.joypad := by cases m <;> rfl
@[simp] theorem State.stepHl_serial (s : State) (m : RegMem) : (s.stepHl m).serial = s.serial := by cases m <;> rfl
@[simp] theorem State.stepHl_others (s : State) (m : RegMem) : (s.stepHl m).others = s.others := by cases m <;> rfl
@[simp] theorem State.stepHl_mem (s : State) (m : RegMem) : (s.stepHl m).mem = s.mem := by cases m <;> rfl
@[simp] theorem State.stepHl_fb (s : State) (m : RegMem) : (s.stepHl m).fb = s.fb := by cases m <;> rfl
@[simp] theorem State.stepHl_params (s : State) (m : RegMem) : (s.stepHl m).params = s.params := by cases m <;> rfl
@[simp] theorem State.stepHl_hostInputs (s : State) (m : RegMem) : (s.stepHl m).hostInputs = s.hostInputs := by cases m <;> rfl
@[simp] theorem State.stepHl_draws (s : State) (m : RegMem) : (s.stepHl m).draws = s.draws := by cases m <;> rfl

/-! ### setCell -/

@[simp] theorem State.setCell_regs (s : State) (k : Nat) (v : Byte) : (s.setCell k v).regs = s.regs := rfl
@[simp] theorem State.setCell_ctl (s : State) (k : Nat) (v : Byte) : (s.setCell k v).ctl = s.ctl := rfl
@[simp] theorem State.setCell_intFlag (s : State) (k : Nat) (v : Byte) : (s.setCell k v).intFlag = s.intFlag := rfl
@[simp] theorem State.setCell_intEnable (s : State) (k : Nat) (v : Byte) : (s.setCell k v).intEnable = s.intEnable := rfl
@[simp] theorem State.setCell_lcd (s : State) (k : Nat) (v : Byte) : (s.setCell k v).lcd = s.lcd := rfl
@[simp] theorem State.setCell_ppu (s : State) (k : Nat) (v : Byte) : (s.setCell k v).ppu = s.ppu := rfl
@[simp] theorem State.setCell_dma (s : State) (k : Nat) (v : Byte) : (s.setCell k v).dma = s.dma := rfl
@[simp] theorem State.setCell_timer (s : State) (k : Nat) (v : Byte) : (s.setCell k v).timer = s.timer := rfl
@[simp] theorem State.setCell_joypad (s : State) (k : Nat) (v : Byte) : (s.setCell k v).joypad = s.joypad := rfl
@[simp] theorem State.setCell_serial (s : State) (k : Nat) (v : Byte) : (s.setCell k v).serial = s.serial := rfl
@[simp] theorem State.setCell_others (s : State) (k : Nat) (v : Byte) : (s.setCell k v).others = s.others := rfl
@[simp] theorem State.setCell_fb (s : State) (k : Nat) (v : Byte) : (s.setCell k v).fb = s.fb := rfl
@[simp] theorem State.setCell_params (s : State) (k : Nat) (v : Byte) : (s.setCell k v).params = s.params := rfl
@[simp] theorem State.setCell_hostInputs (s : State) (k : Nat) (v : Byte) : (s.setCell k v).hostInputs = s.hostInputs := rfl
@[simp] theorem State.setCell_draws (s : State) (k : Nat) (v : Byte) : (s.setCell k v).draws = s.draws := rfl

/-! ### request -/

@[simp] theorem State.request_regs (s : State) (i : IntSource) : (s.request i).regs = s.regs := rfl
@[simp] theorem State.request_ctl (s : State) (i : IntSource) : (s.request i).ctl = s.ctl := rfl
@[simp] theorem State.request_intEnable (s : State) (i : IntSource) : (s.request i).intEnable = s.intEnable := rfl
@[simp] theorem State.request_lcd (s : State) (i : IntSource) : (s.request i).lcd = s.lcd := rfl
@[simp] theorem State.request_ppu (s : State) (i : IntSource) : (s.request i).ppu = s.ppu := rfl
@[simp] theorem State.request_dma (s : State) (i : IntSource) : (s.request i).dma = s.dma := rfl
@[simp] theorem State.request_timer (s : State) (i : IntSource) : (s.request i).timer = s.timer := rfl
@[simp] theorem State.request_joypad (s : State) (i : IntSource) : (s.request i).joypad = s.joypad := rfl
@[simp] theorem State.request_serial (s : State) (i : IntSource) : (s.request i).serial = s.serial := rfl
@[simp] theorem State.request_others (s : State) (i : IntSource) : (s.request i).others = s.others := rfl
@[simp] theorem State.request_mem (s : State) (i : IntSource) : (s.request i).mem = s.mem := rfl
@[simp] theorem State.request_fb (s : State) (i : IntSource) : (s.request i).fb = s.fb := rfl
@[simp] theorem State.request_params (s : State) (i : IntSource) : (s.request i).params = s.params := rfl
@[simp] theorem State.request_hostInputs (s : State) (i : IntSource) : (s.request i).hostInputs = s.hostInputs := rfl
@[simp] theorem State.request_draws (s : State) (i : IntSource) : (s.request i).draws = s.draws := rfl

/-! ### requestIf -/

@[simp] theorem State.requestIf_regs (s : State) (i : IntSource) (b : Bool) : (s.requestIf i b).regs = s.regs := by cases b <;> rfl
@[simp] theorem State.requestIf_ctl (s : State) (i : IntSource) (b : Bool) : (s.requestIf i b).ctl = s.ctl := by cases b <;> rfl
@[simp] theorem State.requestIf_intEnable (s : State) (i : IntSource) (b : Bool) : (s.requestIf i b).intEnable = s.intEnable := by cases b <;> rfl
@[simp] theorem State.requestIf_lcd (s : State) (i : IntSource) (b : Bool) : (s.requestIf i b).lcd = s.lcd := by cases b <;> rfl
@[simp] theorem State.requestIf_ppu (s : State) (i : IntSource) (b : Bool) : (s.requestIf i b).ppu = s.ppu := by cases b <;> rfl
@[simp] theorem State.requestIf_dma (s : State) (i : IntSource) (b : Bool) : (s.requestIf i b).dma = s.dma := by cases b <;> rfl
@[simp] theorem State.requestIf_timer (s : State) (i : IntSource) (b : Bool) : (s.requestIf i b).timer = s.timer := by cases b <;> rfl
@[simp] theorem State.requestIf_joypad (s : State) (i : IntSource) (b : Bool) : (s.requestIf i b).joypad = s.joypad := by cases b <;> rfl
@[simp] theorem State.requestIf_serial (s : State) (i : IntSource) (b : Bool) : (s.requestIf i b).serial = s.serial := by cases b <;> rfl
@[simp] theorem State.requestIf_others (s : State) (i : IntSource) (b : Bool) : (s.requestIf i b).others = s.others := by cases b <;> rfl
@[simp] theorem State.requestIf_mem (s : State) (i : IntSource) (b : Bool) : (s.requestIf i b).mem = s.mem := by cases b <;> rfl
@[simp] theorem State.requestIf_fb (s : State) (i : IntSource) (b : Bool) : (s.requestIf i b).fb = s.fb := by cases b <;> rfl
@[simp] theorem State.requestIf_params (s : State) (i : IntSource) (b : Bool) : (s.requestIf i b).params = s.params := by cases b <;> rfl
@[simp] theorem State.requestIf_hostInputs (s : State) (i : IntSource) (b : Bool) : (s.requestIf i b).hostInputs = s.hostInputs := by cases b <;> rfl
@[simp] theorem State.requestIf_draws (s : State) (i : IntSource) (b : Bool) : (s.requestIf i b).draws = s.draws := by cases b <;> rfl

/-! ### setTimer -/

@[simp] theorem State.setTimer_regs (s : State) (t : Timer × Bool) : (s.setTimer t).regs = s.regs := by simp [State.setTimer]
@[simp] theorem State.setTimer_ctl (s : State) (t : Timer × Bool) : (s.setTimer t).ctl = s.ctl := by simp [State.setTimer]
@[simp] theorem State.setTimer_intEnable (s : State) (t : Timer × Bool) : (s.setTimer t).intEnable = s.intEnable := by simp [State.setTimer]
@[simp] theorem State.setTimer_lcd (s : State) (t : Timer × Bool) : (s.setTimer t).lcd = s.lcd := by simp [State.setTimer]
@[simp] theorem State.setTimer_ppu (s : State) (t : Timer × Bool) : (s.setTimer t).ppu = s.ppu := by simp [State.setTimer]
@[simp] theorem State.setTimer_dma (s : State) (t : Timer × Bool) : (s.setTimer t).dma = s.dma := by simp [State.setTimer]
@[simp] theorem State.setTimer_joypad (s : State) (t : Timer × Bool) : (s.setTimer t).joypad = s.joypad := by simp [State.setTimer]
@[simp] theorem State.setTimer_serial (s : State) (t : Timer × Bool) : (s.setTimer t).serial = s.serial := by simp [State.setTimer]
@[simp] theorem State.setTimer_others (s : State) (t : Timer × Bool) : (s.setTimer t).others = s.others := by simp [State.setTimer]
@[simp] theorem State.setTimer_mem (s : State) (t : Timer × Bool) : (s.setTimer t).mem = s.mem := by simp [State.setTimer]
@[simp] theorem State.setTimer_fb (s : State) (t : Timer × Bool) : (s.setTimer t).fb = s.fb := by simp [State.setTimer]
@[simp] theorem State.setTimer_params (s : State) (t : Timer × Bool) : (s.setTimer t).params = s.params := by simp [State.setTimer]
@[simp] theorem State.setTimer_hostInputs (s : State) (t : Timer × Bool) : (s.setTimer t).hostInputs = s.hostInputs := by simp [State.setTimer]
@[simp] theorem State.setTimer_draws (s : State) (t : Timer × Bool) : (s.setTimer t).draws = s.draws := by simp [State.setTimer]

/-! ### setJoypad -/

@[simp] theorem State.setJoypad_regs (s : State) (j : Joypad × Bool) : (s.setJoypad j).regs = s.regs := by simp [State.setJoypad]
@[simp] theorem State.setJoypad_ctl (s : State) (j : Joypad × Bool) : (s.setJoypad j).ctl = s.ctl := by simp [State.setJoypad]
@[simp] theorem State.setJoypad_intEnable (s : State) (j : Joypad × Bool) : (s.setJoypad j).intEnable = s.intEnable := by simp [State.setJoypad]
@[simp] theorem State.setJoypad_lcd (s : State) (j : Joypad × Bool) : (s.setJoypad j).lcd = s.lcd := by simp [State.setJoypad]
@[simp] theorem State.setJoypad_ppu (s : State) (j : Joypad × Bool) : (s.setJoypad j).ppu = s.ppu := by simp [State.setJoypad]
@[simp] theorem State.setJoypad_dma (s : State) (j : Joypad × Bool) : (s.setJoypad j).dma = s.dma := by simp [State.setJoypad]
@[simp] theorem State.setJoypad_timer (s : State) (j : Joypad × Bool) : (s.setJoypad j).timer = s.timer := by simp [State.setJoypad]
@[simp] theorem State.setJoypad_serial (s : State) (j : Joypad × Bool) : (s.setJoypad j).serial = s.serial := by simp [State.setJoypad]
@[simp] theorem State.setJoypad_others (s : State) (j : Joypad × Bool) : (s.setJoypad j).others = s.others := by simp [State.setJoypad]
@[simp] theorem State.setJoypad_mem (s : State) (j : Joypad × Bool) : (s.setJoypad j).mem = s.mem := by simp [State.setJoypad]
@[simp] theorem State.setJoypad_fb (s : State) (j : Joypad × Bool) : (s.setJoypad j).fb = s.fb := by simp [State.setJoypad]
@[simp] theorem State.setJoypad_params (s : State) (j : Joypad × Bool) : (s.setJoypad j).params = s.params := by simp [State.setJoypad]
@[simp] theorem State.setJoypad_hostInputs (s : State) (j : Joypad × Bool) : (s.setJoypad j).hostInputs = s.hostInputs := by simp [State.setJoypad]
@[simp] theorem State.setJoypad_draws (s : State) (j : Joypad × Bool) : (s.setJoypad j).draws = s.draws := by simp [State.setJoypad]

/-! ### setSerial -/

@[simp] theorem State.setSerial_regs (s : State) (u : Serial × Bool) : (s.setSerial u).regs = s.regs := by simp [State.setSerial]
@[simp] theorem State.setSerial_ctl (s : State) (u : Serial × Bool) : (s.setSerial u).ctl = s.ctl := by simp [State.setSerial]
@[simp] theorem State.setSerial_intEnable (s : State) (u : Serial × Bool) : (s.setSerial u).intEnable = s.intEnable := by simp [State.setSerial]
@[simp] theorem State.setSerial_lcd (s : State) (u : Serial × Bool) : (s.setSerial u).lcd = s.lcd := by simp [State.setSerial]
@[simp] theorem State.setSerial_ppu (s : State) (u : Serial × Bool) : (s.setSerial u).ppu = s.ppu := by simp [State.setSerial]
@[simp] theorem State.setSerial_dma (s : State) (u : Serial × Bool) : (s.setSerial u).dma = s.dma := by simp [State.setSerial]
@[simp] theorem State.setSerial_timer (s : State) (u : Serial × Bool) : (s.setSerial u).timer = s.timer := by simp [State.setSerial]
@[simp] theorem State.setSerial_joypad (s : State) (u : Serial × Bool) : (s.setSerial u).joypad = s.joypad := by simp [State.setSerial]
@[simp] theorem State.setSerial_others (s : State) (u : Serial × Bool) : (s.setSerial u).others = s.others := by simp [State.setSerial]
@[simp] theorem State.setSerial_mem (s : State) (u : Serial × Bool) : (s.setSerial u).mem = s.mem := by simp [State.setSerial]
@[simp] theorem State.setSerial_fb (s : State) (u : Serial × Bool) : (s.setSerial u).fb = s.fb := by simp [State.setSerial]
@[simp] theorem State.setSerial_params (s : State) (u : Serial × Bool) : (s.setSerial u).params = s.params := by simp [State.setSerial]
@[simp] theorem State.setSerial_hostInputs (s : State) (u : Serial × Bool) : (s.setSerial u).hostInputs = s.hostInputs := by simp [State.setSerial]
@[simp] theorem State.setSerial_draws (s : State) (u : Serial × Bool) : (s.setSerial u).draws = s.draws := by simp [State.setSerial]

@[simp] theorem State.setTimer_timer (s : State) (t : Timer × Bool) : (s.setTimer t).timer = t.1 := by
  simp [State.setTimer]
@[simp] theorem State.setJoypad_joypad (s : State) (j : Joypad × Bool) : (s.setJoypad j).joypad = j.1 := by
  simp [State.setJoypad]
@[simp] theorem State.setSerial_serial (s : State) (u : Serial × Bool) : (s.setSerial u).serial = u.1 := by
  simp [State.setSerial]

/-! ### setOther -/

@[simp] theorem State.setOther_regs (s : State) (d : DeviceKind) (u : Nat × Bool) : (s.setOther d u).regs = s.regs := by simp [State.setOther]
@[simp] theorem State.setOther_ctl (s : State) (d : DeviceKind) (u : Nat × Bool) : (s.setOther d u).ctl = s.ctl := by simp [State.setOther]
@[simp] theorem State.setOther_intEnable (s : State) (d : DeviceKind) (u : Nat × Bool) : (s.setOther d u).intEnable = s.intEnable := by simp [State.setOther]
@[simp] theorem State.setOther_lcd (s : State) (d : DeviceKind) (u : Nat × Bool) : (s.setOther d u).lcd = s.lcd := by simp [State.setOther]
@[simp] theorem State.setOther_ppu (s : State) (d : DeviceKind) (u : Nat × Bool) : (s.setOther d u).ppu = s.ppu := by simp [State.setOther]
@[simp] theorem State.setOther_dma (s : State) (d : DeviceKind) (u : Nat × Bool) : (s.setOther d u).dma = s.dma := by simp [State.setOther]
@[simp] theorem State.setOther_timer (s : State) (d : DeviceKind) (u : Nat × Bool) : (s.setOther d u).timer = s.timer := by simp [State.setOther]
@[simp] theorem State.setOther_joypad (s : State) (d : DeviceKind) (u : Nat × Bool) : (s.setOther d u).joypad = s.joypad := by simp [State.setOther]
@[simp] theorem State.setOther_serial (s : State) (d : DeviceKind) (u : Nat × Bool) : (s.setOther d u).serial = s.serial := by simp [State.setOther]
@[simp] theorem State.setOther_mem (s : State) (d : DeviceKind) (u : Nat × Bool) : (s.setOther d u).mem = s.mem := by simp [State.setOther]
@[simp] theorem State.setOther_fb (s : State) (d : DeviceKind) (u : Nat × Bool) : (s.setOther d u).fb = s.fb := by simp [State.setOther]
@[simp] theorem State.setOther_params (s : State) (d : DeviceKind) (u : Nat × Bool) : (s.setOther d u).params = s.params := by simp [State.setOther]
@[simp] theorem State.setOther_hostInputs (s : State) (d : DeviceKind) (u : Nat × Bool) : (s.setOther d u).hostInputs = s.hostInputs := by simp [State.setOther]
@[simp] theorem State.setOther_draws (s : State) (d : DeviceKind) (u : Nat × Bool) : (s.setOther d u).draws = s.draws := by simp [State.setOther]

/-! ### setLcd -/

@[simp] theorem State.setLcd_regs (s : State) (l : Lcd) : (s.setLcd l).regs = s.regs := rfl
@[simp] theorem State.setLcd_ctl (s : State) (l : Lcd) : (s.setLcd l).ctl = s.ctl := rfl
@[simp] theorem State.setLcd_intFlag (s : State) (l : Lcd) : (s.setLcd l).intFlag = s.intFlag := rfl
@[simp] theorem State.setLcd_intEnable (s : State) (l : Lcd) : (s.setLcd l).intEnable = s.intEnable := rfl
@[simp] theorem State.setLcd_ppu (s : State) (l : Lcd) : (s.setLcd l).ppu = s.ppu := rfl
@[simp] theorem State.setLcd_dma (s : State) (l : Lcd) : (s.setLcd l).dma = s.dma := rfl
@[simp] theorem State.setLcd_timer (s : State) (l : Lcd) : (s.setLcd l).timer = s.timer := rfl
@[simp] theorem State.setLcd_joypad (s : State) (l : Lcd) : (s.setLcd l).joypad = s.joypad := rfl
@[simp] theorem State.setLcd_serial (s : State) (l : Lcd) : (s.setLcd l).serial = s.serial := rfl
@[simp] theorem State.setLcd_others (s : State) (l : Lcd) : (s.setLcd l).others = s.others := rfl
@[simp] theorem State.setLcd_mem (s : State) (l : Lcd) : (s.setLcd l).mem = s.mem := rfl
@[simp] theorem State.setLcd_fb (s : State) (l : Lcd) : (s.setLcd l).fb = s.fb := rfl
@[simp] theorem State.setLcd_params (s : State) (l : Lcd) : (s.setLcd l).params = s.params := rfl
@[simp] theorem State.setLcd_hostInputs (s : State) (l : Lcd) : (s.setLcd l).hostInputs = s.hostInputs := rfl
@[simp] theorem State.setLcd_draws (s : State) (l : Lcd) : (s.setLcd l).draws = s.draws := rfl

/-! ### setPalette -/

@[simp] theorem State.setPalette_regs (s : State) (l : Lcd) : (s.setPalette l).regs = s.regs := by unfold State.setPalette; split <;> rfl
@[simp] theorem State.setPalette_ctl (s : State) (l : Lcd) : (s.setPalette l).ctl = s.ctl := by unfold State.setPalette; split <;> rfl
@[simp] theorem State.setPalette_intFlag (s : State) (l : Lcd) : (s.setPalette l).intFlag = s.intFlag := by unfold State.setPalette; split <;> rfl
@[simp] theorem State.setPalette_intEnable (s : State) (l : Lcd) : (s.setPalette l).intEnable = s.intEnable := by unfold State.setPalette; split <;> rfl
@[simp] theorem State.setPalette_ppu (s : State) (l : Lcd) : (s.setPalette l).ppu = s.ppu := by unfold State.setPalette; split <;> rfl
@[simp] theorem State.setPalette_dma (s : State) (l : Lcd) : (s.setPalette l).dma = s.dma := by unfold State.setPalette; split <;> rfl
@[simp] theorem State.setPalette_timer (s : State) (l : Lcd) : (s.setPalette l).timer = s.timer := by unfold State.setPalette; split <;> rfl
@[simp] theorem State.setPalette_joypad (s : State) (l : Lcd) : (s.setPalette l).joypad = s.joypad := by unfold State.setPalette; split <;> rfl
@[simp] theorem State.setPalette_serial (s : State) (l : Lcd) : (s.setPalette l).serial = s.serial := by unfold State.setPalette; split <;> rfl
@[simp] theorem State.setPalette_others (s : State) (l : Lcd) : (s.setPalette l).others = s.others := by unfold State.setPalette; split <;> rfl
@[simp] theorem State.setPalette_mem (s : State) (l : Lcd) : (s.setPalette l).mem = s.mem := by unfold State.setPalette; split <;> rfl
@[simp] theorem State.setPalette_fb (s : State) (l : Lcd) : (s.setPalette l).fb = s.fb := by unfold State.setPalette; split <;> rfl
@[simp] theorem State.setPalette_params (s : State) (l : Lcd) : (s.setPalette l).params = s.params := by unfold State.setPalette; split <;> rfl
@[simp] theorem State.setPalette_hostInputs (s : State) (l : Lcd) : (s.setPalette l).hostInputs = s.hostInputs := by unfold State.setPalette; split <;> rfl
@[simp] theorem State.setPalette_draws (s : State) (l : Lcd) : (s.setPalette l).draws = s.draws := by unfold State.setPalette; split <;> rfl

/-! ### startDma -/

@[simp] theorem State.startDma_regs (s : State) (v : Byte) : (s.startDma v).regs = s.regs := rfl
@[simp] theorem State.startDma_ctl (s : State) (v : Byte) : (s.startDma v).ctl = s.ctl := rfl
@[simp] theorem State.startDma_intFlag (s : State) (v : Byte) : (s.startDma v).intFlag = s.intFlag := rfl
@[simp] theorem State.startDma_intEnable (s : State) (v : Byte) : (s.startDma v).intEnable = s.intEnable := rfl
@[simp] theorem State.startDma_ppu (s : State) (v : Byte) : (s.startDma v).ppu = s.ppu := rfl
@[simp] theorem State.startDma_timer (s : State) (v : Byte) : (s.startDma v).timer = s.timer := rfl
@[simp] theorem State.startDma_joypad (s : State) (v : Byte) : (s.startDma v).joypad = s.joypad := rfl
@[simp] theorem State.startDma_serial (s : State) (v : Byte) : (s.startDma v).serial = s.serial := rfl
@[simp] theorem State.startDma_others (s : State) (v : Byte) : (s.startDma v).others = s.others := rfl
@[simp] theorem State.startDma_mem (s : State) (v : Byte) : (s.startDma v).mem = s.mem := rfl
@[simp] theorem State.startDma_fb (s : State) (v : Byte) : (s.startDma v).fb = s.fb := rfl
@[simp] theorem State.startDma_params (s : State) (v : Byte) : (s.startDma v).params = s.params := rfl
@[simp] theorem State.startDma_hostInputs (s : State) (v : Byte) : (s.startDma v).hostInputs = s.hostInputs := rfl
@[simp] theorem State.startDma_draws (s : State) (v : Byte) : (s.startDma v).draws = s.draws := rfl

/-! ### writeOwn -/

@[simp] theorem State.writeOwn_regs (s : State) (r : IoReg) (v : Byte) : (s.writeOwn r v).regs = s.regs := by cases r <;> simp [State.writeOwn]
@[simp] theorem State.writeOwn_ctl (s : State) (r : IoReg) (v : Byte) : (s.writeOwn r v).ctl = s.ctl := by cases r <;> simp [State.writeOwn]
@[simp] theorem State.writeOwn_intEnable (s : State) (r : IoReg) (v : Byte) : (s.writeOwn r v).intEnable = s.intEnable := by cases r <;> simp [State.writeOwn]
@[simp] theorem State.writeOwn_ppu (s : State) (r : IoReg) (v : Byte) : (s.writeOwn r v).ppu = s.ppu := by cases r <;> simp [State.writeOwn]
@[simp] theorem State.writeOwn_others (s : State) (r : IoReg) (v : Byte) : (s.writeOwn r v).others = s.others := by cases r <;> simp [State.writeOwn]
@[simp] theorem State.writeOwn_mem (s : State) (r : IoReg) (v : Byte) : (s.writeOwn r v).mem = s.mem := by cases r <;> simp [State.writeOwn]
@[simp] theorem State.writeOwn_fb (s : State) (r : IoReg) (v : Byte) : (s.writeOwn r v).fb = s.fb := by cases r <;> simp [State.writeOwn]
@[simp] theorem State.writeOwn_params (s : State) (r : IoReg) (v : Byte) : (s.writeOwn r v).params = s.params := by cases r <;> simp [State.writeOwn]
@[simp] theorem State.writeOwn_hostInputs (s : State) (r : IoReg) (v : Byte) : (s.writeOwn r v).hostInputs = s.hostInputs := by cases r <;> simp [State.writeOwn]
@[simp] theorem State.writeOwn_draws (s : State) (r : IoReg) (v : Byte) : (s.writeOwn r v).draws = s.draws := by cases r <;> simp [State.writeOwn]

/-! ### writeIo -/

@[simp] theorem State.writeIo_regs (s : State) (r : IoReg) (v : Byte) : (s.writeIo r v).regs = s.regs := by unfold State.writeIo; split <;> simp
@[simp] theorem State.writeIo_ctl (s : State) (r : IoReg) (v : Byte) : (s.writeIo r v).ctl = s.ctl := by unfold State.writeIo; split <;> simp
@[simp] theorem State.writeIo_intEnable (s : State) (r : IoReg) (v : Byte) : (s.writeIo r v).intEnable = s.intEnable := by unfold State.writeIo; split <;> simp
@[simp] theorem State.writeIo_ppu (s : State) (r : IoReg) (v : Byte) : (s.writeIo r v).ppu = s.ppu := by unfold State.writeIo; split <;> simp
@[simp] theorem State.writeIo_mem (s : State) (r : IoReg) (v : Byte) : (s.writeIo r v).mem = s.mem := by unfold State.writeIo; split <;> simp
@[simp] theorem State.writeIo_fb (s : State) (r : IoReg) (v : Byte) : (s.writeIo r v).fb = s.fb := by unfold State.writeIo; split <;> simp
@[simp] theorem State.writeIo_params (s : State) (r : IoReg) (v : Byte) : (s.writeIo r v).params = s.params := by unfold State.writeIo; split <;> simp
@[simp] theorem State.writeIo_hostInputs (s : State) (r : IoReg) (v : Byte) : (s.writeIo r v).hostInputs = s.hostInputs := by unfold State.writeIo; split <;> simp
@[simp] theorem State.writeIo_draws (s : State) (r : IoReg) (v : Byte) : (s.writeIo r v).draws = s.draws := by unfold State.writeIo; split <;> simp

/-! ### afterReadIo -/

@[simp] theorem State.afterReadIo_regs (s : State) (r : IoReg) : (s.afterReadIo r).regs = s.regs := by unfold State.afterReadIo; split <;> simp
@[simp] theorem State.afterReadIo_ctl (s : State) (r : IoReg) : (s.afterReadIo r).ctl = s.ctl := by unfold State.afterReadIo; split <;> simp
@[simp] theorem State.afterReadIo_intEnable (s : State) (r : IoReg) : (s.afterReadIo r).intEnable = s.intEnable := by unfold State.afterReadIo; split <;> simp
@[simp] theorem State.afterReadIo_lcd (s : State) (r : IoReg) : (s.afterReadIo r).lcd = s.lcd := by unfold State.afterReadIo; split <;> simp
@[simp] theorem State.afterReadIo_ppu (s : State) (r : IoReg) : (s.afterReadIo r).ppu = s.ppu := by unfold State.afterReadIo; split <;> simp
@[simp] theorem State.afterReadIo_dma (s : State) (r : IoReg) : (s.afterReadIo r).dma = s.dma := by unfold State.afterReadIo; split <;> simp
@[simp] theorem State.afterReadIo_timer (s : State) (r : IoReg) : (s.afterReadIo r).timer = s.timer := by unfold State.afterReadIo; split <;> simp
@[simp] theorem State.afterReadIo_joypad (s : State) (r : IoReg) : (s.afterReadIo r).joypad = s.joypad := by unfold State.afterReadIo; split <;> simp
@[simp] theorem State.afterReadIo_serial (s : State) (r : IoReg) : (s.afterReadIo r).serial = s.serial := by unfold State.afterReadIo; split <;> simp
@[simp] theorem State.afterReadIo_mem (s : State) (r : IoReg) : (s.afterReadIo r).mem = s.mem := by unfold State.afterReadIo; split <;> simp
@[simp] theorem State.afterReadIo_fb (s : State) (r : IoReg) : (s.afterReadIo r).fb = s.fb := by unfold State.afterReadIo; split <;> simp
@[simp] theorem State.afterReadIo_params (s : State) (r : IoReg) : (s.afterReadIo r).params = s.params := by unfold State.afterReadIo; split <;> simp
@[simp] theorem State.afterReadIo_hostInputs (s : State) (r : IoReg) : (s.afterReadIo r).hostInputs = s.hostInputs := by unfold State.afterReadIo; split <;> simp
@[simp] theorem State.afterReadIo_draws (s : State) (r : IoReg) : (s.afterReadIo r).draws = s.draws := by unfold State.afterReadIo; split <;> simp

/-! ### afterReadTarget -/

@[simp] theorem State.afterReadTarget_regs (s : State) (t : Target) : (s.afterReadTarget t).regs = s.regs := by cases t <;> simp [State.afterReadTarget]
@[simp] theorem State.afterReadTarget_ctl (s : State) (t : Target) : (s.afterReadTarget t).ctl = s.ctl := by cases t <;> simp [State.afterReadTarget]
@[simp] theorem State.afterReadTarget_intEnable (s : State) (t : Target) : (s.afterReadTarget t).intEnable = s.intEnable := by cases t <;> simp [State.afterReadTarget]
@[simp] theorem State.afterReadTarget_lcd (s : State) (t : Target) : (s.afterReadTarget t).lcd = s.lcd := by cases t <;> simp [State.afterReadTarget]
@[simp] theorem State.afterReadTarget_ppu (s : State) (t : Target) : (s.afterReadTarget t).ppu = s.ppu := by cases t <;> simp [State.afterReadTarget]
@[simp] theorem State.afterReadTarget_dma (s : State) (t : Target) : (s.afterReadTarget t).dma = s.dma := by cases t <;> simp [State.afterReadTarget]
@[simp] theorem State.afterReadTarget_timer (s : State) (t : Target) : (s.afterReadTarget t).timer = s.timer := by cases t <;> simp [State.afterReadTarget]
@[simp] theorem State.afterReadTarget_joypad (s : State) (t : Target) : (s.afterReadTarget t).joypad = s.joypad := by cases t <;> simp [State.afterReadTarget]
@[simp] theorem State.afterReadTarget_serial (s : State) (t : Target) : (s.afterReadTarget t).serial = s.serial := by cases t <;> simp [State.afterReadTarget]
@[simp] theorem State.afterReadTarget_mem (s : State) (t : Target) : (s.afterReadTarget t).mem = s.mem := by cases t <;> simp [State.afterReadTarget]
@[simp] theorem State.afterReadTarget_fb (s : State) (t : Target) : (s.afterReadTarget t).fb = s.fb := by cases t <;> simp [State.afterReadTarget]
@[simp] theorem State.afterReadTarget_params (s : State) (t : Target) : (s.afterReadTarget t).params = s.params := by cases t <;> simp [State.afterReadTarget]
@[simp] theorem State.afterReadTarget_hostInputs (s : State) (t : Target) : (s.afterReadTarget t).hostInputs = s.hostInputs := by cases t <;> simp [State.afterReadTarget]
@[simp] theorem State.afterReadTarget_draws (s : State) (t : Target) : (s.afterReadTarget t).draws = s.draws := by cases t <;> simp [State.afterReadTarget]

/-! ### afterRead -/

@[simp] theorem State.afterRead_regs (s : State) (a : Word) : (s.afterRead a).regs = s.regs := by simp [State.afterRead]
@[simp] theorem State.afterRead_ctl (s : State) (a : Word) : (s.afterRead a).ctl = s.ctl := by simp [State.afterRead]
@[simp] theorem State.afterRead_intEnable (s : State) (a : Word) : (s.afterRead a).intEnable = s.intEnable := by simp [State.afterRead]
@[simp] theorem State.afterRead_lcd (s : State) (a : Word) : (s.afterRead a).lcd = s.lcd := by simp [State.afterRead]
@[simp] theorem State.afterRead_ppu (s : State) (a : Word) : (s.afterRead a).ppu = s.ppu := by simp [State.afterRead]
@[simp] theorem State.afterRead_dma (s : State) (a : Word) : (s.afterRead a).dma = s.dma := by simp [State.afterRead]
@[simp] theorem State.afterRead_timer (s : State) (a : Word) : (s.afterRead a).timer = s.timer := by simp [State.afterRead]
@[simp] theorem State.afterRead_joypad (s : State) (a : Word) : (s.afterRead a).joypad = s.joypad := by simp [State.afterRead]
@[simp] theorem State.afterRead_serial (s : State) (a : Word) : (s.afterRead a).serial = s.serial := by simp [State.afterRead]
@[simp] theorem State.afterRead_mem (s : State) (a : Word) : (s.afterRead a).mem = s.mem := by simp [State.afterRead]
@[simp] theorem State.afterRead_fb (s : State) (a : Word) : (s.afterRead a).fb = s.fb := by simp [State.afterRead]
@[simp] theorem State.afterRead_params (s : State) (a : Word) : (s.afterRead a).params = s.params := by simp [State.afterRead]
@[simp] theorem State.afterRead_hostInputs (s : State) (a : Word) : (s.afterRead a).hostInputs = s.hostInputs := by simp [State.afterRead]
@[simp] theorem State.afterRead_draws (s : State) (a : Word) : (s.afterRead a).draws = s.draws := by simp [State.afterRead]

/-! ### afterOperand -/

@[simp] theorem State.afterOperand_regs (s : State) (o : Operand8) : (s.afterOperand o).regs = s.regs := by cases o <;> simp [State.afterOperand]
@[simp] theorem State.afterOperand_ctl (s : State) (o : Operand8) : (s.afterOperand o).ctl = s.ctl := by cases o <;> simp [State.afterOperand]
@[simp] theorem State.afterOperand_intEnable (s : State) (o : Operand8) : (s.afterOperand o).intEnable = s.intEnable := by cases o <;> simp [State.afterOperand]
@[simp] theorem State.afterOperand_lcd (s : State) (o : Operand8) : (s.afterOperand o).lcd = s.lcd := by cases o <;> simp [State.afterOperand]
@[simp] theorem State.afterOperand_ppu (s : State) (o : Operand8) : (s.afterOperand o).ppu = s.ppu := by cases o <;> simp [State.afterOperand]
@[simp] theorem State.afterOperand_dma (s : State) (o : Operand8) : (s.afterOperand o).dma = s.dma := by cases o <;> simp [State.afterOperand]
@[simp] theorem State.afterOperand_timer (s : State) (o : Operand8) : (s.afterOperand o).timer = s.timer := by cases o <;> simp [State.afterOperand]
@[simp] theorem State.afterOperand_joypad (s : State) (o : Operand8) : (s.afterOperand o).joypad = s.joypad := by cases o <;> simp [State.afterOperand]
@[simp] theorem State.afterOperand_serial (s : State) (o : Operand8) : (s.afterOperand o).serial = s.serial := by cases o <;> simp [State.afterOperand]
@[simp] theorem State.afterOperand_mem (s : State) (o : Operand8) : (s.afterOperand o).mem = s.mem := by cases o <;> simp [State.afterOperand]
@[simp] theorem State.afterOperand_fb (s : State) (o : Operand8) : (s.afterOperand o).fb = s.fb := by cases o <;> simp [State.afterOperand]
@[simp] theorem State.afterOperand_params (s : State) (o : Operand8) : (s.afterOperand o).params = s.params := by cases o <;> simp [State.afterOperand]
@[simp] theorem State.afterOperand_hostInputs (s : State) (o : Operand8) : (s.afterOperand o).hostInputs = s.hostInputs := by cases o <;> simp [State.afterOperand]
@[simp] theorem State.afterOperand_draws (s : State) (o : Operand8) : (s.afterOperand o).draws = s.draws := by cases o <;> simp [State.afterOperand]

/-! ### writeTarget -/

@[simp] theorem State.writeTarget_regs (s : State) (t : Target) (v : Byte) : (s.writeTarget t v).regs = s.regs := by cases t <;> simp only [State.writeTarget] <;> first | rfl | simp | (split <;> simp)
@[simp] theorem State.writeTarget_ctl (s : State) (t : Target) (v : Byte) : (s.writeTarget t v).ctl = s.ctl := by cases t <;> simp only [State.writeTarget] <;> first | rfl | simp | (split <;> simp)
@[simp] theorem State.writeTarget_ppu (s : State) (t : Target) (v : Byte) : (s.writeTarget t v).ppu = s.ppu := by cases t <;> simp only [State.writeTarget] <;> first | rfl | simp | (split <;> simp)
@[simp] theorem State.writeTarget_fb (s : State) (t : Target) (v : Byte) : (s.writeTarget t v).fb = s.fb := by cases t <;> simp only [State.writeTarget] <;> first | rfl | simp | (split <;> simp)
@[simp] theorem State.writeTarget_params (s : State) (t : Target) (v : Byte) : (s.writeTarget t v).params = s.params := by cases t <;> simp only [State.writeTarget] <;> first | rfl | simp | (split <;> simp)
@[simp] theorem State.writeTarget_hostInputs (s : State) (t : Target) (v : Byte) : (s.writeTarget t v).hostInputs = s.hostInputs := by cases t <;> simp only [State.writeTarget] <;> first | rfl | simp | (split <;> simp)
@[simp] theorem State.writeTarget_draws (s : State) (t : Target) (v : Byte) : (s.writeTarget t v).draws = s.draws := by cases t <;> simp only [State.writeTarget] <;> first | rfl | simp | (split <;> simp)

/-! ### memWrite -/

@[simp] theorem State.memWrite_regs (s : State) (a : Word) (v : Byte) : (s.memWrite a v).regs = s.regs := by simp [State.memWrite]
@[simp] theorem State.memWrite_ctl (s : State) (a : Word) (v : Byte) : (s.memWrite a v).ctl = s.ctl := by simp [State.memWrite]
@[simp] theorem State.memWrite_ppu (s : State) (a : Word) (v : Byte) : (s.memWrite a v).ppu = s.ppu := by simp [State.memWrite]
@[simp] theorem State.memWrite_fb (s : State) (a : Word) (v : Byte) : (s.memWrite a v).fb = s.fb := by simp [State.memWrite]
@[simp] theorem State.memWrite_params (s : State) (a : Word) (v : Byte) : (s.memWrite a v).params = s.params := by simp [State.memWrite]
@[simp] theorem State.memWrite_hostInputs (s : State) (a : Word) (v : Byte) : (s.memWrite a v).hostInputs = s.hostInputs := by simp [State.memWrite]
@[simp] theorem State.memWrite_draws (s : State) (a : Word) (v : Byte) : (s.memWrite a v).draws = s.draws := by simp [State.memWrite]

/-! ### memWrite16 -/

@[simp] theorem State.memWrite16_regs (s : State) (a : Word) (v : Word) : (s.memWrite16 a v).regs = s.regs := by simp [State.memWrite16]
@[simp] theorem State.memWrite16_ctl (s : State) (a : Word) (v : Word) : (s.memWrite16 a v).ctl = s.ctl := by simp [State.memWrite16]
@[simp] theorem State.memWrite16_ppu (s : State) (a : Word) (v : Word) : (s.memWrite16 a v).ppu = s.ppu := by simp [State.memWrite16]
@[simp] theorem State.memWrite16_fb (s : State) (a : Word) (v : Word) : (s.memWrite16 a v).fb = s.fb := by simp [State.memWrite16]
@[simp] theorem State.memWrite16_params (s : State) (a : Word) (v : Word) : (s.memWrite16 a v).params = s.params := by simp [State.memWrite16]
@[simp] theorem State.memWrite16_hostInputs (s : State) (a : Word) (v : Word) : (s.memWrite16 a v).hostInputs = s.hostInputs := by simp [State.memWrite16]
@[simp] theorem State.memWrite16_draws (s : State) (a : Word) (v : Word) : (s.memWrite16 a v).draws = s.draws := by simp [State.memWrite16]

/-! ### setOperand -/

@[simp] theorem State.setOperand_ctl (s : State) (o : Operand8) (v : Byte) : (s.setOperand o v).ctl = s.ctl := by cases o <;> simp [State.setOperand]
@[simp] theorem State.setOperand_ppu (s : State) (o : Operand8) (v : Byte) : (s.setOperand o v).ppu = s.ppu := by cases o <;> simp [State.setOperand]
@[simp] theorem State.setOperand_fb (s : State) (o : Operand8) (v : Byte) : (s.setOperand o v).fb = s.fb := by cases o <;> simp [State.setOperand]
@[simp] theorem State.setOperand_params (s : State) (o : Operand8) (v : Byte) : (s.setOperand o v).params = s.params := by cases o <;> simp [State.setOperand]
@[simp] theorem State.setOperand_hostInputs (s : State) (o : Operand8) (v : Byte) : (s.setOperand o v).hostInputs = s.hostInputs := by cases o <;> simp [State.setOperand]
@[simp] theorem State.setOperand_draws (s : State) (o : Operand8) (v : Byte) : (s.setOperand o v).draws = s.draws := by cases o <;> simp [State.setOperand]

/-! ### push16 -/

@[simp] theorem State.push16_ctl (s : State) (v : Word) : (s.push16 v).ctl = s.ctl := by simp [State.push16]
@[simp] theorem State.push16_ppu (s : State) (v : Word) : (s.push16 v).ppu = s.ppu := by simp [State.push16]
@[simp] theorem State.push16_fb (s : State) (v : Word) : (s.push16 v).fb = s.fb := by simp [State.push16]
@[simp] theorem State.push16_params (s : State) (v : Word) : (s.push16 v).params = s.params := by simp [State.push16]
@[simp] theorem State.push16_hostInputs (s : State) (v : Word) : (s.push16 v).hostInputs = s.hostInputs := by simp [State.push16]
@[simp] theorem State.push16_draws (s : State) (v : Word) : (s.push16 v).draws = s.draws := by simp [State.push16]

/-! ### fetch8 -/

@[simp] theorem State.fetch8_intEnable (s : State) : (s.fetch8.2).intEnable = s.intEnable := by unfold State.fetch8; simp only; split <;> simp
@[simp] theorem State.fetch8_lcd (s : State) : (s.fetch8.2).lcd = s.lcd := by unfold State.fetch8; simp only; split <;> simp
@[simp] theorem State.fetch8_ppu (s : State) : (s.fetch8.2).ppu = s.ppu := by unfold State.fetch8; simp only; split <;> simp
@[simp] theorem State.fetch8_dma (s : State) : (s.fetch8.2).dma = s.dma := by unfold State.fetch8; simp only; split <;> simp
@[simp] theorem State.fetch8_timer (s : State) : (s.fetch8.2).timer = s.timer := by unfold State.fetch8; simp only; split <;> simp
@[simp] theorem State.fetch8_joypad (s : State) : (s.fetch8.2).joypad = s.joypad := by unfold State.fetch8; simp only; split <;> simp
@[simp] theorem State.fetch8_serial (s : State) : (s.fetch8.2).serial = s.serial := by unfold State.fetch8; simp only; split <;> simp
@[simp] theorem State.fetch8_mem (s : State) : (s.fetch8.2).mem = s.mem := by unfold State.fetch8; simp only; split <;> simp
@[simp] theorem State.fetch8_fb (s : State) : (s.fetch8.2).fb = s.fb := by unfold State.fetch8; simp only; split <;> simp
@[simp] theorem State.fetch8_params (s : State) : (s.fetch8.2).params = s.params := by unfold State.fetch8; simp only; split <;> simp
@[simp] theorem State.fetch8_hostInputs (s : State) : (s.fetch8.2).hostInputs = s.hostInputs := by unfold State.fetch8; simp only; split <;> simp
@[simp] theorem State.fetch8_draws (s : State) : (s.fetch8.2).draws = s.draws := by unfold State.fetch8; simp only; split <;> simp

/-! ### pop16 -/

@[simp] theorem State.pop16_ctl (s : State) : (s.pop16.2).ctl = s.ctl := by simp [State.pop16]
@[simp] theorem State.pop16_intEnable (s : State) : (s.pop16.2).intEnable = s.intEnable := by simp [State.pop16]
@[simp] theorem State.pop16_lcd (s : State) : (s.pop16.2).lcd = s.lcd := by simp [State.pop16]
@[simp] theorem State.pop16_ppu (s : State) : (s.pop16.2).ppu = s.ppu := by simp [State.pop16]
@[simp] theorem State.pop16_dma (s : State) : (s.pop16.2).dma = s.dma := by simp [State.pop16]
@[simp] theorem State.pop16_timer (s : State) : (s.pop16.2).timer = s.timer := by simp [State.pop16]
@[simp] theorem State.pop16_joypad (s : State) : (s.pop16.2).joypad = s.joypad := by simp [State.pop16]
@[simp] theorem State.pop16_serial (s : State) : (s.pop16.2).serial = s.serial := by simp [State.pop16]
@[simp] theorem State.pop16_mem (s : State) : (s.pop16.2).mem = s.mem := by simp [State.pop16]
@[simp] theorem State.pop16_fb (s : State) : (s.pop16.2).fb = s.fb := by simp [State.pop16]
@[simp] theorem State.pop16_params (s : State) : (s.pop16.2).params = s.params := by simp [State.pop16]
@[simp] theorem State.pop16_hostInputs (s : State) : (s.pop16.2).hostInputs = s.hostInputs := by simp [State.pop16]
@[simp] theorem State.pop16_draws (s : State) : (s.pop16.2).draws = s.draws := by simp [State.pop16]

/-! ### ret -/

@[simp] theorem State.ret_ctl (s : State) : (s.ret).ctl = s.ctl := by simp [State.ret]
@[simp] theorem State.ret_intEnable (s : State) : (s.ret).intEnable = s.intEnable := by simp [State.ret]
@[simp] theorem State.ret_lcd (s : State) : (s.ret).lcd = s.lcd := by simp [State.ret]
@[simp] theorem State.ret_ppu (s : State) : (s.ret).ppu = s.ppu := by simp [State.ret]
@[simp] theorem State.ret_dma (s : State) : (s.ret).dma = s.dma := by simp [State.ret]
@[simp] theorem State.ret_timer (s : State) : (s.ret).timer = s.timer := by simp [State.ret]
@[simp] theorem State.ret_joypad (s : State) : (s.ret).joypad = s.joypad := by simp [State.ret]
@[simp] theorem State.ret_serial (s : State) : (s.ret).serial = s.serial := by simp [State.ret]
@[simp] theorem State.ret_mem (s : State) : (s.ret).mem = s.mem := by simp [State.ret]
@[simp] theorem State.ret_fb (s : State) : (s.ret).fb = s.fb := by simp [State.ret]
@[simp] theorem State.ret_params (s : State) : (s.ret).params = s.params := by simp [State.ret]
@[simp] theorem State.ret_hostInputs (s : State) : (s.ret).hostInputs = s.hostInputs := by simp [State.ret]
@[simp] theorem State.ret_draws (s : State) : (s.ret).draws = s.draws := by simp [State.ret]

/-! ### setIme -/

@[simp] theorem State.setIme_regs (s : State) (v : Bool) : (s.setIme v).regs = s.regs := rfl
@[simp] theorem State.setIme_intFlag (s : State) (v : Bool) : (s.setIme v).intFlag = s.intFlag := rfl
@[simp] theorem State.setIme_intEnable (s : State) (v : Bool) : (s.setIme v).intEnable = s.intEnable := rfl
@[simp] theorem State.setIme_lcd (s : State) (v : Bool) : (s.setIme v).lcd = s.lcd := rfl
@[simp] theorem State.setIme_ppu (s : State) (v : Bool) : (s.setIme v).ppu = s.ppu := rfl
@[simp] theorem State.setIme_dma (s : State) (v : Bool) : (s.setIme v).dma = s.dma := rfl
@[simp] theorem State.setIme_timer (s : State) (v : Bool) : (s.setIme v).timer = s.timer := rfl
@[simp] theorem State.setIme_joypad (s : State) (v : Bool) : (s.setIme v).joypad = s.joypad := rfl
@[simp] theorem State.setIme_serial (s : State) (v : Bool) : (s.setIme v).serial = s.serial := rfl
@[simp] theorem State.setIme_others (s : State) (v : Bool) : (s.setIme v).others = s.others := rfl
@[simp] theorem State.setIme_mem (s : State) (v : Bool) : (s.setIme v).mem = s.mem := rfl
@[simp] theorem State.setIme_fb (s : State) (v : Bool) : (s.setIme v).fb = s.fb := rfl
@[simp] theorem State.setIme_params (s : State) (v : Bool) : (s.setIme v).params = s.params := rfl
@[simp] theorem State.setIme_hostInputs (s : State) (v : Bool) : (s.setIme v).hostInputs = s.hostInputs := rfl
@[simp] theorem State.setIme_draws (s : State) (v : Bool) : (s.setIme v).draws = s.draws := rfl

/-! ### raise -/

@[simp] theorem State.raise_regs (s : State) (op : Byte) : (s.raise op).regs = s.regs := rfl
@[simp] theorem State.raise_intFlag (s : State) (op : Byte) : (s.raise op).intFlag = s.intFlag := rfl
@[simp] theorem State.raise_intEnable (s : State) (op : Byte) : (s.raise op).intEnable = s.intEnable := rfl
@[simp] theorem State.raise_lcd (s : State) (op : Byte) : (s.raise op).lcd = s.lcd := rfl
@[simp] theorem State.raise_ppu (s : State) (op : Byte) : (s.raise op).ppu = s.ppu := rfl
@[simp] theorem State.raise_dma (s : State) (op : Byte) : (s.raise op).dma = s.dma := rfl
@[simp] theorem State.raise_timer (s : State) (op : Byte) : (s.raise op).timer = s.timer := rfl
@[simp] theorem State.raise_joypad (s : State) (op : Byte) : (s.raise op).joypad = s.joypad := rfl
@[simp] theorem State.raise_serial (s : State) (op : Byte) : (s.raise op).serial = s.serial := rfl
@[simp] theorem State.raise_others (s : State) (op : Byte) : (s.raise op).others = s.others := rfl
@[simp] theorem State.raise_mem (s : State) (op : Byte) : (s.raise op).mem = s.mem := rfl
@[simp] theorem State.raise_fb (s : State) (op : Byte) : (s.raise op).fb = s.fb := rfl
@[simp] theorem State.raise_params (s : State) (op : Byte) : (s.raise op).params = s.params := rfl
@[simp] theorem State.raise_hostInputs (s : State) (op : Byte) : (s.raise op).hostInputs = s.hostInputs := rfl
@[simp] theorem State.raise_draws (s : State) (op : Byte) : (s.raise op).draws = s.draws := rfl

/-! ### applyEi -/

@[simp] theorem State.applyEi_regs (s : State) : (s.applyEi).regs = s.regs := by unfold State.applyEi; split <;> [rfl; (split <;> rfl)]
@[simp] theorem State.applyEi_intFlag (s : State) : (s.applyEi).intFlag = s.intFlag := by unfold State.applyEi; split <;> [rfl; (split <;> rfl)]
@[simp] theorem State.applyEi_intEnable (s : State) : (s.applyEi).intEnable = s.intEnable := by unfold State.applyEi; split <;> [rfl; (split <;> rfl)]
@[simp] theorem State.applyEi_lcd (s : State) : (s.applyEi).lcd = s.lcd := by unfold State.applyEi; split <;> [rfl; (split <;> rfl)]
@[simp] theorem State.applyEi_ppu (s : State) : (s.applyEi).ppu = s.ppu := by unfold State.applyEi; split <;> [rfl; (split <;> rfl)]
@[simp] theorem State.applyEi_dma (s : State) : (s.applyEi).dma = s.dma := by unfold State.applyEi; split <;> [rfl; (split <;> rfl)]
@[simp] theorem State.applyEi_timer (s : State) : (s.applyEi).timer = s.timer := by unfold State.applyEi; split <;> [rfl; (split <;> rfl)]
@[simp] theorem State.applyEi_joypad (s : State) : (s.applyEi).joypad = s.joypad := by unfold State.applyEi; split <;> [rfl; (split <;> rfl)]
@[simp] theorem State.applyEi_serial (s : State) : (s.applyEi).serial = s.serial := by unfold State.applyEi; split <;> [rfl; (split <;> rfl)]
@[simp] theorem State.applyEi_others (s : State) : (s.applyEi).others = s.others := by unfold State.applyEi; split <;> [rfl; (split <;> rfl)]
@[simp] theorem State.applyEi_mem (s : State) : (s.applyEi).mem = s.mem := by unfold State.applyEi; split <;> [rfl; (split <;> rfl)]
@[simp] theorem State.applyEi_fb (s : State) : (s.applyEi).fb = s.fb := by unfold State.applyEi; split <;> [rfl; (split <;> rfl)]
@[simp] theorem State.applyEi_params (s : State) : (s.applyEi).params = s.params := by unfold State.applyEi; split <;> [rfl; (split <;> rfl)]
@[simp] theorem State.applyEi_hostInputs (s : State) : (s.applyEi).hostInputs = s.hostInputs := by unfold State.applyEi; split <;> [rfl; (split <;> rfl)]
@[simp] theorem State.applyEi_draws (s : State) : (s.applyEi).draws = s.draws := by unfold State.applyEi; split <;> [rfl; (split <;> rfl)]

/-! ### wake -/

@[simp] theorem State.wake_regs (s : State) : (s.wake).regs = s.regs := rfl
@[simp] theorem State.wake_intFlag (s : State) : (s.wake).intFlag = s.intFlag := rfl
@[simp] theorem State.wake_intEnable (s : State) : (s.wake).intEnable = s.intEnable := rfl
@[simp] theorem State.wake_lcd (s : State) : (s.wake).lcd = s.lcd := rfl
@[simp] theorem State.wake_ppu (s : State) : (s.wake).ppu = s.ppu := rfl
@[simp] theorem State.wake_dma (s : State) : (s.wake).dma = s.dma := rfl
@[simp] theorem State.wake_timer (s : State) : (s.wake).timer = s.timer := rfl
@[simp] theorem State.wake_joypad (s : State) : (s.wake).joypad = s.joypad := rfl
@[simp] theorem State.wake_serial (s : State) : (s.wake).serial = s.serial := rfl
@[simp] theorem State.wake_others (s : State) : (s.wake).others = s.others := rfl
@[simp] theorem State.wake_mem (s : State) : (s.wake).mem = s.mem := rfl
@[simp] theorem State.wake_fb (s : State) : (s.wake).fb = s.fb := rfl
@[simp] theorem State.wake_params (s : State) : (s.wake).params = s.params := rfl
@[simp] theorem State.wake_hostInputs (s : State) : (s.wake).hostInputs = s.hostInputs := rfl
@[simp] theorem State.wake_draws (s : State) : (s.wake).draws = s.draws := rfl

/-! ### dispatch -/

@[simp] theorem State.dispatch_ppu (s : State) (i : IntSource) : (s.dispatch i).ppu = s.ppu := by simp [State.dispatch]
@[simp] theorem State.dispatch_fb (s : State) (i : IntSource) : (s.dispatch i).fb = s.fb := by simp [State.dispatch]
@[simp] theorem State.dispatch_params (s : State) (i : IntSource) : (s.dispatch i).params = s.params := by simp [State.dispatch]
@[simp] theorem State.dispatch_hostInputs (s : State) (i : IntSource) : (s.dispatch i).hostInputs = s.hostInputs := by simp [State.dispatch]
@[simp] theorem State.dispatch_draws (s : State) (i : IntSource) : (s.dispatch i).draws = s.draws := by simp [State.dispatch]

/-! ### retInterrupt -/

@[simp] theorem State.retInterrupt_intEnable (s : State) : (s.retInterrupt).intEnable = s.intEnable := by simp [State.retInterrupt]
@[simp] theorem State.retInterrupt_lcd (s : State) : (s.retInterrupt).lcd = s.lcd := by simp [State.retInterrupt]
@[simp] theorem State.retInterrupt_ppu (s : State) : (s.retInterrupt).ppu = s.ppu := by simp [State.retInterrupt]
@[simp] theorem State.retInterrupt_dma (s : State) : (s.retInterrupt).dma = s.dma := by simp [State.retInterrupt]
@[simp] theorem State.retInterrupt_timer (s : State) : (s.retInterrupt).timer = s.timer := by simp [State.retInterrupt]
@[simp] theorem State.retInterrupt_joypad (s : State) : (s.retInterrupt).joypad = s.joypad := by simp [State.retInterrupt]
@[simp] theorem State.retInterrupt_serial (s : State) : (s.retInterrupt).serial = s.serial := by simp [State.retInterrupt]
@[simp] theorem State.retInterrupt_mem (s : State) : (s.retInterrupt).mem = s.mem := by simp [State.retInterrupt]
@[simp] theorem State.retInterrupt_fb (s : State) : (s.retInterrupt).fb = s.fb := by simp [State.retInterrupt]
@[simp] theorem State.retInterrupt_params (s : State) : (s.retInterrupt).params = s.params := by simp [State.retInterrupt]
@[simp] theorem State.retInterrupt_hostInputs (s : State) : (s.retInterrupt).hostInputs = s.hostInputs := by simp [State.retInterrupt]
@[simp] theorem State.retInterrupt_draws (s : State) : (s.retInterrupt).draws = s.draws := by simp [State.retInterrupt]

/-! ### press -/

@[simp] theorem State.press_regs (s : State) (p : Buttons) : (s.press p).regs = s.regs := by unfold State.press; split <;> simp
@[simp] theorem State.press_ctl (s : State) (p : Buttons) : (s.press p).ctl = s.ctl := by unfold State.press; split <;> simp
@[simp] theorem State.press_intEnable (s : State) (p : Buttons) : (s.press p).intEnable = s.intEnable := by unfold State.press; split <;> simp
@[simp] theorem State.press_lcd (s : State) (p : Buttons) : (s.press p).lcd = s.lcd := by unfold State.press; split <;> simp
@[simp] theorem State.press_ppu (s : State) (p : Buttons) : (s.press p).ppu = s.ppu := by unfold State.press; split <;> simp
@[simp] theorem State.press_dma (s : State) (p : Buttons) : (s.press p).dma = s.dma := by unfold State.press; split <;> simp
@[simp] theorem State.press_timer (s : State) (p : Buttons) : (s.press p).timer = s.timer := by unfold State.press; split <;> simp
@[simp] theorem State.press_serial (s : State) (p : Buttons) : (s.press p).serial = s.serial := by unfold State.press; split <;> simp
@[simp] theorem State.press_mem (s : State) (p : Buttons) : (s.press p).mem = s.mem := by unfold State.press; split <;> simp
@[simp] theorem State.press_fb (s : State) (p : Buttons) : (s.press p).fb = s.fb := by unfold State.press; split <;> simp
@[simp] theorem State.press_params (s : State) (p : Buttons) : (s.press p).params = s.params := by unfold State.press; split <;> simp
@[simp] theorem State.press_hostInputs (s : State) (p : Buttons) : (s.press p).hostInputs = s.hostInputs := by unfold State.press; split <;> simp
@[simp] theorem State.press_draws (s : State) (p : Buttons) : (s.press p).draws = s.draws := by unfold State.press; split <;> simp

/-! ### takeInput -/

@[simp] theorem State.takeInput_regs (s : State) : (s.takeInput).regs = s.regs := by unfold State.takeInput; split <;> simp
@[simp] theorem State.takeInput_ctl (s : State) : (s.takeInput).ctl = s.ctl := by unfold State.takeInput; split <;> simp
@[simp] theorem State.takeInput_intEnable (s : State) : (s.takeInput).intEnable = s.intEnable := by unfold State.takeInput; split <;> simp
@[simp] theorem State.takeInput_lcd (s : State) : (s.takeInput).lcd = s.lcd := by unfold State.takeInput; split <;> simp
@[simp] theorem State.takeInput_ppu (s : State) : (s.takeInput).ppu = s.ppu := by unfold State.takeInput; split <;> simp
@[simp] theorem State.takeInput_dma (s : State) : (s.takeInput).dma = s.dma := by unfold State.takeInput; split <;> simp
@[simp] theorem State.takeInput_timer (s : State) : (s.takeInput).timer = s.timer := by unfold State.takeInput; split <;> simp
@[simp] theorem State.takeInput_serial (s : State) : (s.takeInput).serial = s.serial := by unfold State.takeInput; split <;> simp
@[simp] theorem State.takeInput_mem (s : State) : (s.takeInput).mem = s.mem := by unfold State.takeInput; split <;> simp
@[simp] theorem State.takeInput_fb (s : State) : (s.takeInput).fb = s.fb := by unfold State.takeInput; split <;> simp
@[simp] theorem State.takeInput_params (s : State) : (s.takeInput).params = s.params := by unfold State.takeInput; split <;> simp
@[simp] theorem State.takeInput_draws (s : State) : (s.takeInput).draws = s.draws := by unfold State.takeInput; split <;> simp

/-! ### Registers after a register update -/

@[simp] theorem State.setReg_reg (s : State) (r q : Reg8) (v : Byte) :
    (s.setReg r v).reg q = if q = r then v else s.reg q := by
  cases r <;> cases q <;> rfl
@[simp] theorem State.setReg_f (s : State) (r : Reg8) (v : Byte) : (s.setReg r v).regs.f = s.regs.f := by
  cases r <;> rfl
@[simp] theorem State.setReg_sp (s : State) (r : Reg8) (v : Byte) : (s.setReg r v).regs.sp = s.regs.sp := by
  cases r <;> rfl
@[simp] theorem State.setReg_pc (s : State) (r : Reg8) (v : Byte) : (s.setReg r v).regs.pc = s.regs.pc := by
  cases r <;> rfl
@[simp] theorem State.setF_reg (s : State) (q : Reg8) (v : Byte) : (s.setF v).reg q = s.reg q := by
  cases q <;> rfl
@[simp] theorem State.setF_f (s : State) (v : Byte) : (s.setF v).regs.f = v &&& 0xF0 := rfl
@[simp] theorem State.setF_sp (s : State) (v : Byte) : (s.setF v).regs.sp = s.regs.sp := rfl
@[simp] theorem State.setF_pc (s : State) (v : Byte) : (s.setF v).regs.pc = s.regs.pc := rfl
@[simp] theorem State.merge_reg {n : Nat} (s : State) (q : Reg8) (r : AluResult n) :
    (s.merge r).reg q = s.reg q := by
  cases q <;> rfl
@[simp] theorem State.merge_sp {n : Nat} (s : State) (r : AluResult n) : (s.merge r).regs.sp = s.regs.sp := rfl
@[simp] theorem State.merge_pc {n : Nat} (s : State) (r : AluResult n) : (s.merge r).regs.pc = s.regs.pc := rfl
@[simp] theorem State.setPc_reg (s : State) (q : Reg8) (v : Word) : (s.setPc v).reg q = s.reg q := by
  cases q <;> rfl
@[simp] theorem State.setPc_f (s : State) (v : Word) : (s.setPc v).regs.f = s.regs.f := rfl
@[simp] theorem State.setPc_sp (s : State) (v : Word) : (s.setPc v).regs.sp = s.regs.sp := rfl
@[simp] theorem State.setPc_pc (s : State) (v : Word) : (s.setPc v).regs.pc = v := rfl
@[simp] theorem State.setSp_reg (s : State) (q : Reg8) (v : Word) : (s.setSp v).reg q = s.reg q := by
  cases q <;> rfl
@[simp] theorem State.setSp_f (s : State) (v : Word) : (s.setSp v).regs.f = s.regs.f := rfl
@[simp] theorem State.setSp_sp (s : State) (v : Word) : (s.setSp v).regs.sp = v := rfl
@[simp] theorem State.setSp_pc (s : State) (v : Word) : (s.setSp v).regs.pc = s.regs.pc := rfl
@[simp] theorem State.setPair_f (s : State) (p : Reg16) (v : Word) : (s.setPair p v).regs.f = s.regs.f := by
  cases p <;> rfl
@[simp] theorem State.setPair_pc (s : State) (p : Reg16) (v : Word) : (s.setPair p v).regs.pc = s.regs.pc := by
  cases p <;> rfl

/-- A register reads as before after the write of a pair it is no half of. -/
theorem State.setPair_reg (s : State) (p : Reg16) (v : Word) (q : Reg8)
    (h : match p with
      | .bc => q ≠ .b ∧ q ≠ .c
      | .de => q ≠ .d ∧ q ≠ .e
      | .hl => q ≠ .h ∧ q ≠ .l
      | .sp => True) :
    (s.setPair p v).reg q = s.reg q := by
  cases p <;> cases q <;> simp_all [State.setPair, State.reg]

/-! ### Register pairs -/

@[simp] theorem State.setPair_pair (s : State) (p : Reg16) (v : Word) : (s.setPair p v).pair p = v := by
  cases p <;> simp [State.setPair, State.pair]
@[simp] theorem State.setPair_hl (s : State) (v : Word) : (s.setPair .hl v).hl = v := s.setPair_pair .hl v
@[simp] theorem State.setPair_sp (s : State) (p : Reg16) (v : Word) :
    (s.setPair p v).regs.sp = if p = .sp then v else s.regs.sp := by
  cases p <;> rfl
@[simp] theorem State.setReg_a_hl (s : State) (v : Byte) : (s.setReg .a v).hl = s.hl := rfl
@[simp] theorem State.setReg_a_pair (s : State) (p : Reg16) (v : Byte) :
    (s.setReg .a v).pair p = s.pair p := by
  cases p <;> rfl
@[simp] theorem State.merge_pair {n : Nat} (s : State) (p : Reg16) (r : AluResult n) :
    (s.merge r).pair p = s.pair p := by
  cases p <;> rfl
@[simp] theorem State.merge_hl {n : Nat} (s : State) (r : AluResult n) : (s.merge r).hl = s.hl := rfl
@[simp] theorem State.setF_pair (s : State) (p : Reg16) (v : Byte) : (s.setF v).pair p = s.pair p := by
  cases p <;> rfl
@[simp] theorem State.memWrite_reg (s : State) (a : Word) (v : Byte) (r : Reg8) :
    (s.memWrite a v).reg r = s.reg r := by
  cases r <;> simp [State.reg]
@[simp] theorem State.memWrite_pair (s : State) (a : Word) (v : Byte) (p : Reg16) :
    (s.memWrite a v).pair p = s.pair p := by
  cases p <;> simp [State.pair]
@[simp] theorem State.memWrite_hl (s : State) (a : Word) (v : Byte) : (s.memWrite a v).hl = s.hl :=
  s.memWrite_pair a v .hl

/-! ### Registers after a read -/

@[simp] theorem State.afterRead_reg (s : State) (a : Word) (r : Reg8) : (s.afterRead a).reg r = s.reg r := by
  cases r <;> simp [State.reg]
@[simp] theorem State.afterRead_pair (s : State) (a : Word) (p : Reg16) : (s.afterRead a).pair p = s.pair p := by
  cases p <;> simp [State.pair]
@[simp] theorem State.afterRead_hl (s : State) (a : Word) : (s.afterRead a).hl = s.hl := s.afterRead_pair a .hl
@[simp] theorem State.afterOperand_reg (s : State) (o : Operand8) (r : Reg8) :
    (s.afterOperand o).reg r = s.reg r := by
  cases r <;> simp [State.reg]
@[simp] theorem State.afterOperand_hl (s : State) (o : Operand8) : (s.afterOperand o).hl = s.hl := by
  simp [State.hl, State.pair]
@[simp] theorem State.afterOperand_flagZ (s : State) (o : Operand8) : (s.afterOperand o).flagZ = s.flagZ := by
  simp [State.flagZ]
@[simp] theorem State.afterOperand_flagN (s : State) (o : Operand8) : (s.afterOperand o).flagN = s.flagN := by
  simp [State.flagN]
@[simp] theorem State.afterOperand_flagH (s : State) (o : Operand8) : (s.afterOperand o).flagH = s.flagH := by
  simp [State.flagH]
@[simp] theorem State.afterOperand_flagC (s : State) (o : Operand8) : (s.afterOperand o).flagC = s.flagC := by
  simp [State.flagC]

/-! ### Reading depends on these fields alone -/

/-- What an I/O register reads does not depend on the registers, the control state or memory. -/
theorem State.readIo_congr {s t : State} (hp : t.ppu = s.ppu) (hl : t.lcd = s.lcd) (ht : t.timer = s.timer)
    (hj : t.joypad = s.joypad) (hu : t.serial = s.serial) (hf : t.intFlag = s.intFlag) (hr : t.params = s.params)
    (ho : t.others = s.others) (r : IoReg) : t.readIo r = s.readIo r := by
  have h : t.readOwn r = s.readOwn r := by cases r <;> simp [State.readOwn, State.readIf, *]
  have h' : t.port r = s.port r := by unfold State.port; rw [hr]
  simp only [State.readIo, h, h', ho]

/-- What the bus reads at an address does not depend on the registers or on the control state. -/
theorem State.memRead_congr {s t : State} (hm : t.mem = s.mem) (hp : t.ppu = s.ppu) (hl : t.lcd = s.lcd)
    (ht : t.timer = s.timer) (hj : t.joypad = s.joypad) (hu : t.serial = s.serial)
    (hf : t.intFlag = s.intFlag) (he : t.intEnable = s.intEnable) (hr : t.params = s.params)
    (ho : t.others = s.others) (a : Word) : t.memRead a = s.memRead a := by
  unfold State.memRead State.target
  rw [hr]
  generalize busTarget s.params.extRamPresent a = x
  cases x with
  | io r => exact State.readIo_congr hp hl ht hj hu hf hr ho r
  | _ => simp [State.readTarget, *]

@[simp] theorem State.setReg_memRead (s : State) (r : Reg8) (v : Byte) (a : Word) :
    (s.setReg r v).memRead a = s.memRead a := by
  apply State.memRead_congr <;> simp
@[simp] theorem State.setPair_memRead (s : State) (p : Reg16) (v : Word) (a : Word) :
    (s.setPair p v).memRead a = s.memRead a := by
  apply State.memRead_congr <;> simp
@[simp] theorem State.merge_memRead {n : Nat} (s : State) (r : AluResult n) (a : Word) :
    (s.merge r).memRead a = s.memRead a := by
  apply State.memRead_congr <;> simp
@[simp] theorem State.setF_memRead (s : State) (v : Byte) (a : Word) : (s.setF v).memRead a = s.memRead a := by
  apply State.memRead_congr <;> simp
@[simp] theorem State.setPc_memRead (s : State) (v a : Word) : (s.setPc v).memRead a = s.memRead a := by
  apply State.memRead_congr <;> simp
@[simp] theorem State.setSp_memRead (s : State) (v a : Word) : (s.setSp v).memRead a = s.memRead a := by
  apply State.memRead_congr <;> simp
@[simp] theorem State.setIme_memRead (s : State) (v : Bool) (a : Word) :
    (s.setIme v).memRead a = s.memRead a := by
  apply State.memRead_congr <;> simp
@[simp] theorem State.raise_memRead (s : State) (op : Byte) (a : Word) :
    (s.raise op).memRead a = s.memRead a := by
  apply State.memRead_congr <;> simp
@[simp] theorem State.wake_memRead (s : State) (a : Word) : s.wake.memRead a = s.memRead a := by
  apply State.memRead_congr <;> simp

end Sys2Proof.Machine
end

