-- ==== Sys2Proof/Laws/Alu.lean ====
section
/-!
SUPPORT. The flags: what each bit of a flag byte is, and what a merge leaves in each flag.
-/

namespace Sys2Proof.Machine

theorem flagByte_z (z n h c : Bool) : (flagByte z n h c).getLsbD 7 = z := by
  cases z <;> cases n <;> cases h <;> cases c <;> rfl
theorem flagByte_n (z n h c : Bool) : (flagByte z n h c).getLsbD 6 = n := by
  cases z <;> cases n <;> cases h <;> cases c <;> rfl
theorem flagByte_h (z n h c : Bool) : (flagByte z n h c).getLsbD 5 = h := by
  cases z <;> cases n <;> cases h <;> cases c <;> rfl
theorem flagByte_c (z n h c : Bool) : (flagByte z n h c).getLsbD 4 = c := by
  cases z <;> cases n <;> cases h <;> cases c <;> rfl

/-- A flag after a merge: the new value where the mask has it, else the old one. -/
theorem mergeFlags_bit (f m v : Byte) (k : Nat) (hk : 4 ≤ k) (hk' : k < 8) :
    (mergeFlags f m v).getLsbD k = if m.getLsbD k then v.getLsbD k else f.getLsbD k := by
  have h : (0xF0 : Byte).getLsbD k = true := by
    interval_cases k <;> rfl
  unfold mergeFlags
  simp only [BitVec.getLsbD_and, BitVec.getLsbD_or, BitVec.getLsbD_not, h]
  cases m.getLsbD k <;> cases v.getLsbD k <;> cases f.getLsbD k <;> simp <;> omega

theorem setF_flag (s : State) (v : Byte) (k : Nat) (hk : 4 ≤ k) (hk' : k < 8) :
    (s.setF v).regs.f.getLsbD k = v.getLsbD k := by
  have h : (0xF0 : Byte).getLsbD k = true := by
    interval_cases k <;> rfl
  simp only [State.setF_f, BitVec.getLsbD_and, h, Bool.and_true]

theorem State.merge_bit {n : Nat} (s : State) (r : AluResult n) (k : Nat) (hk : 4 ≤ k) (hk' : k < 8) :
    (s.merge r).regs.f.getLsbD k = if r.mask.getLsbD k then r.flags.getLsbD k else s.regs.f.getLsbD k := by
  unfold State.merge
  rw [setF_flag _ _ _ hk hk', mergeFlags_bit _ _ _ _ hk hk']

/-- The four flags after a merge: each flag of the mask is new, each other one is as before. -/
theorem State.merge_flags {w : Nat} (s : State) (v : BitVec w) (mz mn mh mc z n h c : Bool) :
    (s.merge ⟨v, flagByte mz mn mh mc, flagByte z n h c⟩).flagsAre (if mz then z else s.flagZ)
      (if mn then n else s.flagN) (if mh then h else s.flagH) (if mc then c else s.flagC) := by
  unfold State.flagsAre State.flagZ State.flagN State.flagH State.flagC
  refine ⟨?_, ?_, ?_, ?_⟩ <;> rw [State.merge_bit _ _ _ (by omega) (by omega)] <;>
    simp only [flagByte_z, flagByte_n, flagByte_h, flagByte_c]

/-- The four flags after a merge with mask {Z, N, H, C}. -/
theorem State.merge_all {w : Nat} (s : State) (v : BitVec w) (z n h c : Bool) :
    (s.merge ⟨v, maskZNHC, flagByte z n h c⟩).flagsAre z n h c :=
  s.merge_flags v _ _ _ _ z n h c

/-- The four flags after a merge with mask {Z, N, H}. -/
theorem State.merge_znh {w : Nat} (s : State) (v : BitVec w) (z n h c : Bool) :
    (s.merge ⟨v, maskZNH, flagByte z n h c⟩).flagsAre z n h s.flagC :=
  s.merge_flags v _ _ _ _ z n h c

/-- The four flags after a merge with mask {N, H, C}. -/
theorem State.merge_nhc {w : Nat} (s : State) (v : BitVec w) (z n h c : Bool) :
    (s.merge ⟨v, maskNHC, flagByte z n h c⟩).flagsAre s.flagZ n h c :=
  s.merge_flags v _ _ _ _ z n h c

/-- The four flags after a merge with mask {Z, H, C}. -/
theorem State.merge_zhc {w : Nat} (s : State) (v : BitVec w) (z n h c : Bool) :
    (s.merge ⟨v, maskZHC, flagByte z n h c⟩).flagsAre z s.flagN h c :=
  s.merge_flags v _ _ _ _ z n h c

/-- The four flags after a merge with mask {N, H}. -/
theorem State.merge_nh {w : Nat} (s : State) (v : BitVec w) (z n h c : Bool) :
    (s.merge ⟨v, maskNH, flagByte z n h c⟩).flagsAre s.flagZ n h s.flagC :=
  s.merge_flags v _ _ _ _ z n h c

/-- A merge leaves the low nibble of F at 0 (R102). -/
theorem State.setF_low (s : State) (v : Byte) : (s.setF v).regs.f &&& 0x0F = 0 := by
  simp [State.setF, BitVec.and_assoc]

/-- The flags are the flags of the register that a register update leaves. -/
theorem State.flagsAre_congr {s t : State} (h : t.regs.f = s.regs.f) {z n h' c : Bool}
    (hs : s.flagsAre z n h' c) : t.flagsAre z n h' c := by
  simpa [State.flagsAre, State.flagZ, State.flagN, State.flagH, State.flagC, h] using hs

end Sys2Proof.Machine
end

