-- ==== Sys2Proof/Laws/Memory.lean ====
section
/-!
SUPPORT. The laws of memory and of the framebuffer: a read after a write to the same key gives the value
written, a write leaves every other key alone, and every operation that writes memory keeps the canonical form.
-/

namespace Sys2Proof.Machine

/-! ### Sparse lists -/

section

variable {α : Type} (dflt : Nat → α)

theorem Sparse.read_insert (m : List (Nat × α)) (a b : Nat) (v : α) :
    Sparse.read dflt (Sparse.insert m a v) b = if b = a then v else Sparse.read dflt m b := by
  induction m with
  | nil => simp [Sparse.insert, Sparse.read, eq_comm]
  | cons c m ih =>
    unfold Sparse.insert
    split
    · simp [Sparse.read, eq_comm]
    · split
      · rename_i h
        subst h
        by_cases hb : b = c.1 <;> simp [Sparse.read, hb, eq_comm]
      · rename_i h
        simp only [Sparse.read, ih]
        by_cases hb : c.1 = b
        · subst hb
          have h' : c.1 ≠ a := fun h' => h h'.symm
          simp [h']
        · simp [hb]

theorem Sparse.read_erase (m : List (Nat × α)) (a b : Nat) :
    Sparse.read dflt (Sparse.erase m a) b = if b = a then dflt a else Sparse.read dflt m b := by
  induction m with
  | nil => by_cases h : b = a <;> simp [Sparse.erase, Sparse.read, h]
  | cons c m ih =>
    unfold Sparse.erase at ih ⊢
    by_cases hc : c.1 = a
    · rw [List.filter_cons_of_neg (by simp [hc]), ih]
      by_cases hb : b = a
      · simp [hb]
      · have h' : c.1 ≠ b := fun h' => hb (h'.symm.trans hc)
        simp [Sparse.read, hb, h']
    · rw [List.filter_cons_of_pos (by simp [hc])]
      simp only [Sparse.read, ih]
      by_cases hb : b = a
      · subst hb
        simp [hc]
      · simp [hb]

theorem Sparse.read_write [DecidableEq α] (m : List (Nat × α)) (a b : Nat) (v : α) :
    Sparse.read dflt (Sparse.write dflt m a v) b = if b = a then v else Sparse.read dflt m b := by
  unfold Sparse.write
  split
  · rename_i h
    rw [Sparse.read_erase, h]
  · exact Sparse.read_insert dflt m a b v

theorem Sparse.mem_insert {m : List (Nat × α)} {a : Nat} {v : α} {c : Nat × α}
    (h : c ∈ Sparse.insert m a v) : c = (a, v) ∨ c ∈ m := by
  induction m with
  | nil => simpa [Sparse.insert] using h
  | cons d m ih =>
    unfold Sparse.insert at h
    split at h
    · simpa using h
    · split at h
      · rcases List.mem_cons.1 h with h | h
        · exact .inl h
        · exact .inr (List.mem_cons_of_mem _ h)
      · rcases List.mem_cons.1 h with h | h
        · exact .inr (h ▸ List.mem_cons_self)
        · exact (ih h).imp id (List.mem_cons_of_mem _)

theorem Sparse.pairwise_insert {m : List (Nat × α)} (a : Nat) (v : α)
    (h : m.Pairwise fun c d => c.1 < d.1) : (Sparse.insert m a v).Pairwise fun c d => c.1 < d.1 := by
  induction m with
  | nil => simp [Sparse.insert]
  | cons d m ih =>
    rw [List.pairwise_cons] at h
    unfold Sparse.insert
    split
    · rename_i ha
      refine List.pairwise_cons.2 ⟨fun c hc => ?_, List.pairwise_cons.2 h⟩
      rcases List.mem_cons.1 hc with hc | hc
      · exact hc ▸ ha
      · exact lt_trans ha (h.1 c hc)
    · split
      · rename_i ha
        exact List.pairwise_cons.2 ⟨fun c hc => ha ▸ h.1 c hc, h.2⟩
      · rename_i h1 h2
        refine List.pairwise_cons.2 ⟨fun c hc => ?_, ih h.2⟩
        rcases Sparse.mem_insert hc with hc | hc
        · subst hc
          exact lt_of_le_of_ne (Nat.le_of_not_lt h1) (fun h' => h2 h'.symm)
        · exact h.1 c hc

theorem Sparse.mem_write [DecidableEq α] {m : List (Nat × α)} {a : Nat} {v : α} {c : Nat × α}
    (h : c ∈ Sparse.write dflt m a v) : c = (a, v) ∨ c ∈ m := by
  unfold Sparse.write at h
  split at h
  · exact .inr (List.mem_of_mem_filter h)
  · exact Sparse.mem_insert h

/-- A write keeps the canonical form. -/
theorem Sparse.wf_write [DecidableEq α] {m : List (Nat × α)} (a : Nat) (v : α) (h : Sparse.wf dflt m) :
    Sparse.wf dflt (Sparse.write dflt m a v) := by
  unfold Sparse.write
  split
  · exact ⟨h.1.filter _, fun c hc => h.2 c (List.mem_of_mem_filter hc)⟩
  · rename_i hv
    refine ⟨Sparse.pairwise_insert a v h.1, fun c hc => ?_⟩
    rcases Sparse.mem_insert hc with hc | hc
    · subst hc
      exact hv
    · exact h.2 c hc

end

/-! ### Memory -/

theorem Memory.read_write (m : Memory) (a b : Nat) (v : Byte) :
    (m.write a v).read b = if b = a then v else m.read b :=
  Sparse.read_write Memory.unlisted m a b v

@[simp] theorem Memory.read_write_same (m : Memory) (a : Nat) (v : Byte) : (m.write a v).read a = v := by
  simp [Memory.read_write]

theorem Memory.read_write_other {a b : Nat} (m : Memory) (v : Byte) (h : b ≠ a) :
    (m.write a v).read b = m.read b := by
  simp [Memory.read_write, h]

/-- A write at a backed address keeps the canonical form of memory. -/
theorem Memory.wf_write {m : Memory} {a : Nat} (v : Byte) (ha : Memory.backed a = true) (h : m.wf) :
    (m.write a v).wf :=
  ⟨Sparse.wf_write _ a v h.1, fun c hc => by
    rcases Sparse.mem_write _ hc with hc | hc
    · exact hc ▸ ha
    · exact h.2 c hc⟩

theorem Memory.wf_reset : State.reset.mem.wf := by decide

/-! ### The framebuffer -/

theorem Framebuffer.read_write (fb : Framebuffer) (y x y' x' : Nat) (v : Shade) :
    (fb.write y x v).read y' x' =
      if Framebuffer.pos y' x' = Framebuffer.pos y x then v else fb.read y' x' :=
  Sparse.read_write Framebuffer.unlisted fb _ _ v

/-- Columns below 160 make positions distinct. -/
theorem Framebuffer.pos_inj {y x y' x' : Nat} (hx : x < 160) (hx' : x' < 160)
    (h : Framebuffer.pos y x = Framebuffer.pos y' x') : y = y' ∧ x = x' := by
  unfold Framebuffer.pos at h
  omega

theorem Framebuffer.wf_write {fb : Framebuffer} (y x : Nat) (v : Shade) (h : fb.wf) : (fb.write y x v).wf :=
  Sparse.wf_write _ _ v h

theorem Framebuffer.mem_write {fb : Framebuffer} {y x : Nat} {v : Shade} {c : Nat × Shade}
    (h : c ∈ fb.write y x v) : c.1 = Framebuffer.pos y x ∨ c ∈ fb :=
  (Sparse.mem_write _ h).imp (fun h => by rw [h]) id

/-! ### Every operation that writes memory keeps its canonical form -/

/-- The cells an address can reach are backed. -/
theorem busTarget_backed (e : Bool) (a : Word) :
    match busTarget e a with
    | .vram k => Memory.backed k = true
    | .ram k => Memory.backed k = true
    | .oam k => Memory.backed k = true
    | .rom k => Memory.backed k = true
    | _ => True := by
  have h := a.isLt
  by_cases h1 : a.toNat < 0x8000
  · simp [busTarget, h1, Memory.backed]
    omega
  by_cases h2 : a.toNat < 0xA000
  · simp [busTarget, h1, h2, Memory.backed]
    omega
  by_cases h3 : a.toNat < 0xC000
  · cases e <;> simp [busTarget, h1, h2, h3, Memory.backed]
    omega
  by_cases h4 : a.toNat < 0xE000
  · simp [busTarget, h1, h2, h3, h4, Memory.backed]
  by_cases h5 : a.toNat < 0xFE00
  · simp [busTarget, h1, h2, h3, h4, h5, Memory.backed]
    omega
  by_cases h6 : a.toNat < 0xFEA0
  · simp [busTarget, h1, h2, h3, h4, h5, h6, Memory.backed]
    omega
  by_cases h7 : a.toNat < 0xFF00
  · simp [busTarget, h1, h2, h3, h4, h5, h6, h7]
  by_cases h8 : a.toNat < 0xFF80
  · simp only [busTarget, h1, h2, h3, h4, h5, h6, h7, h8, if_true, if_false]
    cases List.lookup (loByte a) ioMap <;> trivial
  by_cases h9 : a.toNat < 0xFFFF
  · simp [busTarget, h1, h2, h3, h4, h5, h6, h7, h8, h9, Memory.backed]
    omega
  · simp [busTarget, h1, h2, h3, h4, h5, h6, h7, h8, h9]

theorem State.setCell_wf {s : State} {k : Nat} (v : Byte) (hk : Memory.backed k = true) (h : s.mem.wf) :
    (s.setCell k v).mem.wf :=
  Memory.wf_write v hk h

theorem State.memWrite_wf {s : State} (a : Word) (v : Byte) (h : s.mem.wf) : (s.memWrite a v).mem.wf := by
  have hb := busTarget_backed s.params.extRamPresent a
  unfold State.memWrite State.target
  generalize busTarget s.params.extRamPresent a = x at hb
  cases x <;> simp only [State.writeTarget] <;>
    first
      | exact h
      | exact State.setCell_wf v hb h
      | (split <;> [exact h; exact State.setCell_wf v hb h])
      | simpa using h

theorem State.memWrite16_wf {s : State} (a v : Word) (h : s.mem.wf) : (s.memWrite16 a v).mem.wf :=
  State.memWrite_wf _ _ (State.memWrite_wf _ _ h)

theorem State.push16_wf {s : State} (v : Word) (h : s.mem.wf) : (s.push16 v).mem.wf :=
  State.memWrite_wf (s := State.setSp _ _) _ _ (State.memWrite_wf (s := s.setSp _) _ _ h)

theorem State.setOperand_wf {s : State} (o : Operand8) (v : Byte) (h : s.mem.wf) :
    (s.setOperand o v).mem.wf := by
  cases o with
  | reg r => simpa [State.setOperand] using h
  | indHl => exact State.memWrite_wf _ _ h

theorem State.placeByte_wf {s : State} (a : Word) (v : Byte) (h : s.mem.wf) : (s.placeByte a v).mem.wf := by
  have hb := busTarget_backed s.params.extRamPresent a
  unfold State.placeByte State.target
  generalize busTarget s.params.extRamPresent a = x at hb
  cases x <;> first | exact h | exact Memory.wf_write v hb h

end Sys2Proof.Machine
end

