-- ==== Sys2Proof/Laws/Bus.lean ====
section
/-!
SUPPORT. The laws of the bus: what each address range reaches, a read after a write, and the frame of a
store: everything a CPU write can change.
-/

namespace Sys2Proof.Machine

/-! ### The map -/

theorem busTarget_rom {e : Bool} {a : Word} (h : a.toNat < 0x8000) : busTarget e a = .rom a.toNat := by
  simp [busTarget, h]

theorem busTarget_vram {e : Bool} {a : Word} (h : 0x8000 ≤ a.toNat) (h' : a.toNat < 0xA000) :
    busTarget e a = .vram a.toNat := by
  simp [busTarget, h', Nat.not_lt.2 h]

theorem busTarget_ext {e : Bool} {a : Word} (h : 0xA000 ≤ a.toNat) (h' : a.toNat < 0xC000) :
    busTarget e a = if e then .ram a.toNat else .openBus := by
  have h1 : ¬a.toNat < 0x8000 := by omega
  simp [busTarget, h', Nat.not_lt.2 h, h1]

theorem busTarget_wram {e : Bool} {a : Word} (h : 0xC000 ≤ a.toNat) (h' : a.toNat < 0xE000) :
    busTarget e a = .ram a.toNat := by
  have h1 : ¬a.toNat < 0x8000 := by omega
  have h2 : ¬a.toNat < 0xA000 := by omega
  simp [busTarget, h', Nat.not_lt.2 h, h1, h2]

theorem busTarget_echo {e : Bool} {a : Word} (h : 0xE000 ≤ a.toNat) (h' : a.toNat < 0xFE00) :
    busTarget e a = .ram (a.toNat - 0x2000) := by
  have h1 : ¬a.toNat < 0x8000 := by omega
  have h2 : ¬a.toNat < 0xA000 := by omega
  have h3 : ¬a.toNat < 0xC000 := by omega
  simp [busTarget, h', Nat.not_lt.2 h, h1, h2, h3]

theorem busTarget_oam {e : Bool} {a : Word} (h : 0xFE00 ≤ a.toNat) (h' : a.toNat < 0xFEA0) :
    busTarget e a = .oam a.toNat := by
  have h1 : ¬a.toNat < 0x8000 := by omega
  have h2 : ¬a.toNat < 0xA000 := by omega
  have h3 : ¬a.toNat < 0xC000 := by omega
  have h4 : ¬a.toNat < 0xE000 := by omega
  simp [busTarget, h', Nat.not_lt.2 h, h1, h2, h3, h4]

theorem busTarget_unusable {e : Bool} {a : Word} (h : 0xFEA0 ≤ a.toNat) (h' : a.toNat < 0xFF00) :
    busTarget e a = .openBus := by
  have h1 : ¬a.toNat < 0x8000 := by omega
  have h2 : ¬a.toNat < 0xA000 := by omega
  have h3 : ¬a.toNat < 0xC000 := by omega
  have h4 : ¬a.toNat < 0xE000 := by omega
  have h5 : ¬a.toNat < 0xFE00 := by omega
  simp [busTarget, h', Nat.not_lt.2 h, h1, h2, h3, h4, h5]

theorem busTarget_io {e : Bool} {a : Word} (h : 0xFF00 ≤ a.toNat) (h' : a.toNat < 0xFF80) :
    busTarget e a =
      match ioMap.lookup (loByte a) with
      | some r => .io r
      | none => .openBus := by
  have h1 : ¬a.toNat < 0x8000 := by omega
  have h2 : ¬a.toNat < 0xA000 := by omega
  have h3 : ¬a.toNat < 0xC000 := by omega
  have h4 : ¬a.toNat < 0xE000 := by omega
  have h5 : ¬a.toNat < 0xFE00 := by omega
  have h6 : ¬a.toNat < 0xFEA0 := by omega
  simp only [busTarget, h', Nat.not_lt.2 h, h1, h2, h3, h4, h5, h6, if_false, if_true]
  try rfl

theorem busTarget_hram {e : Bool} {a : Word} (h : 0xFF80 ≤ a.toNat) (h' : a.toNat < 0xFFFF) :
    busTarget e a = .ram a.toNat := by
  have h1 : ¬a.toNat < 0x8000 := by omega
  have h2 : ¬a.toNat < 0xA000 := by omega
  have h3 : ¬a.toNat < 0xC000 := by omega
  have h4 : ¬a.toNat < 0xE000 := by omega
  have h5 : ¬a.toNat < 0xFE00 := by omega
  have h6 : ¬a.toNat < 0xFEA0 := by omega
  have h7 : ¬a.toNat < 0xFF00 := by omega
  simp [busTarget, h', Nat.not_lt.2 h, h1, h2, h3, h4, h5, h6, h7]

theorem busTarget_ie (e : Bool) : busTarget e 0xFFFF = .ie := by
  simp [busTarget]

/-- Where the cell of each kind of target lies. -/
theorem busTarget_range (e : Bool) (a : Word) :
    match busTarget e a with
    | .rom k => k < 0x8000
    | .vram k => 0x8000 ≤ k ∧ k < 0xA000
    | .ram k => (0xA000 ≤ k ∧ k < 0xE000) ∨ (0xFF80 ≤ k ∧ k < 0xFFFF)
    | .oam k => 0xFE00 ≤ k ∧ k < 0xFEA0
    | _ => True := by
  have h := a.isLt
  by_cases h1 : a.toNat < 0x8000
  · rw [busTarget_rom h1]
    exact h1
  by_cases h2 : a.toNat < 0xA000
  · rw [busTarget_vram (by omega) h2]
    exact ⟨by omega, h2⟩
  by_cases h3 : a.toNat < 0xC000
  · rw [busTarget_ext (by omega) h3]
    cases e
    · trivial
    · exact .inl ⟨by omega, by omega⟩
  by_cases h4 : a.toNat < 0xE000
  · rw [busTarget_wram (by omega) h4]
    exact .inl ⟨by omega, h4⟩
  by_cases h5 : a.toNat < 0xFE00
  · rw [busTarget_echo (by omega) h5]
    exact .inl ⟨by omega, by omega⟩
  by_cases h6 : a.toNat < 0xFEA0
  · rw [busTarget_oam (by omega) h6]
    exact ⟨by omega, h6⟩
  by_cases h7 : a.toNat < 0xFF00
  · rw [busTarget_unusable (by omega) h7]
    trivial
  by_cases h8 : a.toNat < 0xFF80
  · rw [busTarget_io (by omega) h8]
    cases List.lookup (loByte a) ioMap <;> trivial
  by_cases h9 : a.toNat < 0xFFFF
  · rw [busTarget_hram (by omega) h9]
    exact .inr ⟨by omega, h9⟩
  · have h10 : a = 0xFFFF := by
      apply BitVec.eq_of_toNat_eq
      simp
      omega
    rw [h10, busTarget_ie]
    trivial

/-! ### A read after a write -/

@[simp] theorem State.memWrite_target (s : State) (a b : Word) (v : Byte) :
    (s.memWrite a v).target b = s.target b := by
  simp [State.target]

/-- What a cell-backed target reads is its cell's byte, or 0xFF behind a lock. -/
theorem State.memRead_ram {s : State} {a : Word} {k : Nat} (h : s.target a = .ram k) :
    s.memRead a = s.mem.read k := by
  simp [State.memRead, h, State.readTarget]

theorem State.memWrite_ram {s : State} {a : Word} {k : Nat} (v : Byte) (h : s.target a = .ram k) :
    s.memWrite a v = s.setCell k v := by
  simp [State.memWrite, h, State.writeTarget]

/-- RAM reads back what was written. -/
theorem State.memRead_memWrite_ram {s : State} {a : Word} {k : Nat} (v : Byte) (h : s.target a = .ram k) :
    (s.memWrite a v).memRead a = v := by
  rw [State.memRead_ram (k := k) (by simpa using h), State.memWrite_ram v h]
  simp [State.setCell]

theorem Timer.settle_reads (old new : Timer) :
    (old.settle new).1.counter = new.counter ∧ (old.settle new).1.tma = new.tma ∧
      (old.settle new).1.tac = new.tac := by
  unfold Timer.settle Timer.increment
  split <;> [split <;> simp; simp]

/-- A write that leaves the timer's signal as it was increments nothing. -/
theorem Timer.settle_same_sig {old new : Timer} (h : new.sig = old.sig) : old.settle new = (new, false) := by
  unfold Timer.settle
  rw [h]
  cases old.sig <;> rfl

theorem Timer.writeTima_eq (t : Timer) (v : Byte) : t.writeTima v = ({ t with tima := v }, false) :=
  Timer.settle_same_sig rfl

theorem Timer.writeTma_eq (t : Timer) (v : Byte) : t.writeTma v = ({ t with tma := v }, false) :=
  Timer.settle_same_sig rfl

@[simp] theorem State.requestIf_false (s : State) (i : IntSource) : s.requestIf i false = s := rfl

/-- Which device owns a register depends on the parameters alone. -/
theorem State.port_congr {s t : State} (h : t.params = s.params) (r : IoReg) : t.port r = s.port r := by
  unfold State.port
  rw [h]

/-- With the default devices no register is a fitted device's. -/
theorem State.port_default {s : State} (h : ∀ d, s.params.device d = .default) (r : IoReg) : s.port r = none := by
  unfold State.port
  split
  · rfl
  · rw [h]

@[simp] theorem OtherDevices.of_set (o : OtherDevices) (d e : DeviceKind) (n : Nat) :
    (o.set d n).of e = if e = d then n else o.of e := by
  cases d <;> cases e <;> rfl

@[simp] theorem State.setOther_others (s : State) (d : DeviceKind) (u : Nat × Bool) :
    (s.setOther d u).others = s.others.set d u.1 := by
  simp [State.setOther]

/-- A fitted device's act reaches no register of the block but IF. -/
theorem State.setOther_readOwn (s : State) (d : DeviceKind) (u : Nat × Bool) {r : IoReg} (h : r ≠ .intFlag) :
    (s.setOther d u).readOwn r = s.readOwn r := by
  cases r <;> first | exact absurd rfl h | simp [State.readOwn]

/-- A register of the block or of a default device reads as before after a write to another, but for the timer's
and the joypad's effects. -/
theorem State.readOwn_writeOwn {s : State} {x y : IoReg} (v : Byte) (h : x ≠ y)
    (h' : ¬s.alsoChanges (.io x) (.io y)) : (s.writeOwn x v).readOwn y = s.readOwn y := by
  cases x <;> cases y <;>
    first
      | exact absurd rfl h
      | rfl
      | (refine absurd ?_ h'; simp [State.alsoChanges]; done)
      | skip
  all_goals
    simp [State.writeOwn, State.readOwn, State.setTimer, State.setJoypad, Timer.writeTima_eq, Timer.writeTma_eq,
      Timer.readDiv, Timer.readTac, Timer.writeDiv, Timer.writeTac, Timer.settle_reads, State.readIf,
      Serial.readSc, State.setLcd, State.setPalette, Lcd.stat, Joypad.read]
  all_goals split <;> rfl

/-- An I/O register reads as before after a write to another, but for the named device effects. -/
theorem State.readIo_writeIo {s : State} {x y : IoReg} (v : Byte) (h : x ≠ y)
    (h' : ¬s.alsoChanges (.io x) (.io y)) : (s.writeIo x v).readIo y = s.readIo y := by
  have hp : (s.writeIo x v).port y = s.port y := State.port_congr (by simp) y
  unfold State.readIo
  rw [hp]
  unfold State.writeIo
  cases hy : s.port y <;> cases hx : s.port x <;> simp only
  · exact State.readOwn_writeOwn v h h'
  · exact State.setOther_readOwn _ _ _ fun e => h' (.inr (.inr ⟨x, _, rfl, hx, .inl (by rw [e])⟩))
  · simp
  · rename_i p q
    have hk : p.kind ≠ q.kind := fun e => h' (.inr (.inr ⟨x, q, rfl, hx, .inr ⟨y, p, rfl, hy, e⟩⟩))
    simp [hk]

/-- Reading a target that a write does not reach gives what it gave. -/
theorem State.readTarget_writeTarget {s : State} {x y : Target} (v : Byte)
    (hc : ∀ k : Nat, (x = .vram k ∨ x = .ram k ∨ x = .oam k) →
      (y = .rom k ∨ y = .vram k ∨ y = .ram k ∨ y = .oam k) → False)
    (h : x ≠ y) (h' : ¬s.alsoChanges x y) : (s.writeTarget x v).readTarget y = s.readTarget y := by
  have hcell : ∀ k : Nat, (x = .vram k ∨ x = .ram k ∨ x = .oam k) → (s.setCell k v).readTarget y = s.readTarget y := by
    intro k hk
    cases y with
    | rom j =>
      have : j ≠ k := fun e => hc k hk (.inl (by rw [e]))
      simp [State.readTarget, State.setCell, Memory.read_write_other _ _ this]
    | vram j =>
      have : j ≠ k := fun e => hc k hk (.inr (.inl (by rw [e])))
      simp [State.readTarget, State.setCell, Memory.read_write_other _ _ this]
    | ram j =>
      have : j ≠ k := fun e => hc k hk (.inr (.inr (.inl (by rw [e]))))
      simp [State.readTarget, State.setCell, Memory.read_write_other _ _ this]
    | oam j =>
      have : j ≠ k := fun e => hc k hk (.inr (.inr (.inr (by rw [e]))))
      simp [State.readTarget, State.setCell, Memory.read_write_other _ _ this]
    | io r => exact State.readIo_congr rfl rfl rfl rfl rfl rfl rfl rfl r
    | ie => rfl
    | openBus => rfl
  cases x with
  | rom k => rfl
  | vram k =>
    simp only [State.writeTarget]
    split
    · rfl
    · exact hcell k (.inl rfl)
  | ram k => exact hcell k (.inr (.inl rfl))
  | oam k =>
    simp only [State.writeTarget]
    split
    · rfl
    · exact hcell k (.inr (.inr rfl))
  | io r =>
    cases y with
    | io q =>
      exact State.readIo_writeIo v (fun e => h (by rw [e])) h'
    | _ => simp [State.writeTarget, State.readTarget]
  | ie =>
    cases y with
    | ie => exact absurd rfl h
    | io q => cases q <;> rfl
    | _ => rfl
  | openBus => rfl

/-! ### The frame of a store -/

/-- Two addresses that reach different targets reach different cells. -/
theorem State.target_cells {s : State} {a b : Word} (h : s.target a ≠ s.target b) (k : Nat)
    (ha : s.target a = .vram k ∨ s.target a = .ram k ∨ s.target a = .oam k)
    (hb : s.target b = .rom k ∨ s.target b = .vram k ∨ s.target b = .ram k ∨ s.target b = .oam k) : False := by
  have ra := busTarget_range s.params.extRamPresent a
  have rb := busTarget_range s.params.extRamPresent b
  unfold State.target at *
  rcases ha with ha | ha | ha <;> rcases hb with hb | hb | hb | hb <;> rw [ha] at ra <;> rw [hb] at rb <;>
    first
      | exact h (ha.trans hb.symm)
      | (simp only at ra rb; omega)

/-- A store at `a` changes nothing read elsewhere, but for the named device effects. -/
theorem State.memWrite_memRead {s : State} {a b : Word} (v : Byte) (h : s.target b ≠ s.target a)
    (h' : ¬s.alsoChanges (s.target a) (s.target b)) : (s.memWrite a v).memRead b = s.memRead b := by
  unfold State.memRead
  rw [State.memWrite_target]
  exact State.readTarget_writeTarget v (fun k ha hb => State.target_cells h.symm k ha hb) h.symm h'

/-- A store changes no cell but the one its target names, whatever the lock. -/
theorem State.memWrite_cell {s : State} {a : Word} (v : Byte) {k : Nat} (h : (s.target a).cell ≠ some k) :
    (s.memWrite a v).mem.read k = s.mem.read k := by
  have hc : ∀ j, (s.target a).cell = some j → (s.setCell j v).mem.read k = s.mem.read k := fun j hj =>
    Memory.read_write_other _ _ fun e => h (by rw [hj, e])
  unfold State.memWrite
  generalize s.target a = x at hc
  cases x <;> simp only [State.writeTarget] <;>
    first
      | exact hc _ rfl
      | (split <;> first | rfl | exact hc _ rfl)
      | simp

/-- What fits a register that no fitted device owns. -/
theorem State.port_none {s : State} {r : IoReg} {d : DeviceKind} {n : Nat} (h : s.port r = none)
    (hr : r.port = some (d, n)) : s.params.device d = .default := by
  unfold State.port at h
  rw [hr] at h
  simp only at h
  split at h
  · assumption
  · cases h

/-- A fitted device's register belongs to a device that is not the default one. -/
theorem State.port_some {s : State} {r : IoReg} {p : Port} (h : s.port r = some p) :
    r.port = some (p.kind, p.place) ∧ s.params.device p.kind = .other p.model := by
  unfold State.port at h
  split at h
  · cases h
  · rename_i d n hr
    split at h
    · cases h
    · rename_i m hm
      cases h
      exact ⟨hr, hm⟩

theorem State.writeOwn_lcd (s : State) {r : IoReg} (v : Byte) (h : r.owner ≠ .lcd) :
    (s.writeOwn r v).lcd = s.lcd ∧ (s.writeOwn r v).dma = s.dma := by
  cases r <;> first | exact absurd rfl h | exact ⟨by simp [State.writeOwn], by simp [State.writeOwn]⟩

theorem State.writeIo_lcd (s : State) {r : IoReg} (v : Byte) (h : r.owner ≠ .lcd) :
    (s.writeIo r v).lcd = s.lcd ∧ (s.writeIo r v).dma = s.dma := by
  unfold State.writeIo
  split
  · exact s.writeOwn_lcd v h
  · simp

theorem State.writeIo_timer (s : State) {r : IoReg} (v : Byte)
    (h : r.owner ≠ .timer ∨ s.params.timerDevice ≠ .default) : (s.writeIo r v).timer = s.timer := by
  unfold State.writeIo
  split
  · rename_i hp
    cases r <;>
      first
        | exact h.elim (absurd rfl) (absurd (State.port_none (d := .timer) hp rfl))
        | simp [State.writeOwn]
  · simp

theorem State.writeIo_joypad (s : State) {r : IoReg} (v : Byte)
    (h : r.owner ≠ .joypad ∨ s.params.joypadDevice ≠ .default) : (s.writeIo r v).joypad = s.joypad := by
  unfold State.writeIo
  split
  · rename_i hp
    cases r <;>
      first
        | exact h.elim (absurd rfl) (absurd (State.port_none (d := .joypad) hp rfl))
        | simp [State.writeOwn]
  · simp

theorem State.writeIo_serial (s : State) {r : IoReg} (v : Byte)
    (h : r.owner ≠ .serial ∨ s.params.serialDevice ≠ .default) : (s.writeIo r v).serial = s.serial := by
  unfold State.writeIo
  split
  · rename_i hp
    cases r <;>
      first
        | exact h.elim (absurd rfl) (absurd (State.port_none (d := .serial) hp rfl))
        | simp [State.writeOwn]
  · simp

theorem State.writeIo_others (s : State) {r : IoReg} (v : Byte) {d : DeviceKind}
    (h : ∀ p, s.port r = some p → p.kind ≠ d) : (s.writeIo r v).others.of d = s.others.of d := by
  unfold State.writeIo
  split
  · simp
  · rename_i p hp
    simp [(h p hp).symm]

theorem State.writeIo_intFlag (s : State) {r : IoReg} (v : Byte) (h : r.owner ≠ .interrupts)
    (h' : r.owner ≠ .timer) (h'' : r.owner ≠ .joypad) (hs : r.owner ≠ .serial ∨ s.params.serialDevice = .default) :
    (s.writeIo r v).intFlag = s.intFlag := by
  unfold State.writeIo
  split
  · cases r <;>
      first | exact absurd rfl h | exact absurd rfl h' | exact absurd rfl h'' | simp [State.writeOwn]
  · rename_i p hp
    obtain ⟨hr, hd⟩ := State.port_some hp
    cases r <;>
      first
        | exact absurd rfl h'
        | exact absurd rfl h''
        | (simp only [IoReg.port, Option.some.injEq, Prod.mk.injEq] at hr
           rw [← hr.1, show s.params.device .serial = s.params.serialDevice from rfl,
             hs.resolve_left fun h => h rfl] at hd
           cases hd)
        | cases hr

/-- What a write to anything but an I/O register leaves in the units. -/
theorem State.writeTarget_units (s : State) {x : Target} (v : Byte) (h : ∀ r, x ≠ .io r) :
    (s.writeTarget x v).lcd = s.lcd ∧ (s.writeTarget x v).dma = s.dma ∧ (s.writeTarget x v).timer = s.timer ∧
      (s.writeTarget x v).joypad = s.joypad ∧ (s.writeTarget x v).serial = s.serial ∧
      (s.writeTarget x v).others = s.others ∧ (s.writeTarget x v).intFlag = s.intFlag := by
  cases x <;> simp only [State.writeTarget] <;>
    first
      | exact absurd rfl (h _)
      | exact ⟨trivial, trivial, trivial, trivial, trivial, trivial, trivial⟩
      | exact ⟨rfl, rfl, rfl, rfl, rfl, rfl, rfl⟩
      | (split <;> exact ⟨rfl, rfl, rfl, rfl, rfl, rfl, rfl⟩)

/-- The whole frame of one store. -/
theorem State.memWrite_frame (s : State) (a : Word) (v : Byte) : s.storeFrame (s.memWrite a v) [a] := by
  have hie : s.target a ≠ .ie → (s.memWrite a v).intEnable = s.intEnable := by
    intro h
    unfold State.memWrite
    generalize s.target a = x at *
    cases x <;> simp only [State.writeTarget] <;>
      first
        | exact absurd rfl h
        | rfl
        | (split <;> rfl)
        | simp
  have hmem : s.sameMemoryBut (s.memWrite a v) [a] :=
    ⟨fun k h => State.memWrite_cell v (h a (by simp)),
      fun b h => State.memWrite_memRead v (h a (by simp)).1 (h a (by simp)).2⟩
  by_cases hio : ∃ r, s.target a = .io r
  · obtain ⟨r, hr⟩ := hio
    have he : s.memWrite a v = s.writeIo r v := by simp [State.memWrite, hr, State.writeTarget]
    have hm : ∀ o, s.storesMiss [a] o → r.owner ≠ o := fun o h => h a (by simp) r hr
    refine ⟨by simp, by simp, by simp, by simp, by simp, by simp, fun h => ?_, fun h => ?_, fun h => ?_,
      fun h => ?_, fun d h => ?_, fun h h' h'' hs => ?_, fun h => hie (h a (by simp)), hmem⟩ <;> rw [he]
    · exact s.writeIo_lcd v (hm _ h)
    · exact s.writeIo_timer v (h.imp_left (hm _))
    · exact s.writeIo_joypad v (h.imp_left (hm _))
    · exact s.writeIo_serial v (h.imp_left (hm _))
    · exact s.writeIo_others v fun p hp => h a (by simp) r p hr hp
    · exact s.writeIo_intFlag v (hm _ h) (hm _ h') (hm _ h'') (hs.imp_left (hm _))
  · have hu := s.writeTarget_units v (x := s.target a) fun r hr => hio ⟨r, hr⟩
    exact ⟨by simp, by simp, by simp, by simp, by simp, by simp, fun _ => ⟨hu.1, hu.2.1⟩, fun _ => hu.2.2.1,
      fun _ => hu.2.2.2.1, fun _ => hu.2.2.2.2.1, fun d _ => congrArg (·.of d) hu.2.2.2.2.2.1,
      fun _ _ _ _ => hu.2.2.2.2.2.2, fun h => hie (h a (by simp)), hmem⟩

/-- The named device effects depend on the parameters alone. -/
theorem State.alsoChanges_congr {s t : State} (h : t.params = s.params) (x y : Target) :
    t.alsoChanges x y ↔ s.alsoChanges x y := by
  unfold State.alsoChanges
  simp only [State.port_congr h]

/-- Two stores one after the other have the frame of both. -/
theorem State.storeFrame_trans {s t u : State} {as bs : List Word} (h : s.storeFrame t as)
    (h' : t.storeFrame u bs) : s.storeFrame u (as ++ bs) := by
  have hpar : t.params = s.params := h.2.2.2.1
  have ht : ∀ x, t.target x = s.target x := fun x => by unfold State.target; rw [hpar]
  have hl : ∀ {o}, s.storesMiss (as ++ bs) o → s.storesMiss as o := fun h a ha r hr =>
    h a (List.mem_append_left _ ha) r hr
  have hr : ∀ {o}, s.storesMiss (as ++ bs) o → t.storesMiss bs o := fun h a ha r hr =>
    h a (List.mem_append_right _ ha) r (by rw [← ht]; exact hr)
  obtain ⟨h1, h2, h3, h4, h5, h6, h7, h8, h9, h10, h11, h12, h13, h14⟩ := h
  obtain ⟨k1, k2, k3, k4, k5, k6, k7, k8, k9, k10, k11, k12, k13, k14⟩ := h'
  rw [hpar] at k8 k9 k10 k12
  refine ⟨k1.trans h1, k2.trans h2, k3.trans h3, k4.trans h4, k5.trans h5, k6.trans h6, fun m => ?_, fun m => ?_,
    fun m => ?_, fun m => ?_, fun d m => ?_, fun m m' m'' ms => ?_, fun m => ?_, fun k hk => ?_, fun b hb => ?_⟩
  · exact ⟨(k7 (hr m)).1.trans (h7 (hl m)).1, (k7 (hr m)).2.trans (h7 (hl m)).2⟩
  · exact (k8 (m.imp_left hr)).trans (h8 (m.imp_left hl))
  · exact (k9 (m.imp_left hr)).trans (h9 (m.imp_left hl))
  · exact (k10 (m.imp_left hr)).trans (h10 (m.imp_left hl))
  · refine (k11 d fun a ha r p hr hp => ?_).trans (h11 d fun a ha => m a (List.mem_append_left _ ha))
    rw [ht] at hr
    rw [State.port_congr hpar] at hp
    exact m a (List.mem_append_right _ ha) r p hr hp
  · exact (k12 (hr m) (hr m') (hr m'') (ms.imp_left hr)).trans (h12 (hl m) (hl m') (hl m'') (ms.imp_left hl))
  · refine (k13 fun a ha => ?_).trans (h13 fun a ha => m a (List.mem_append_left _ ha))
    rw [ht]
    exact m a (List.mem_append_right _ ha)
  · refine (k14.1 k fun a ha => ?_).trans (h14.1 k fun a ha => hk a (List.mem_append_left _ ha))
    rw [ht]
    exact hk a (List.mem_append_right _ ha)
  · refine (k14.2 b fun a ha => ?_).trans (h14.2 b fun a ha => hb a (List.mem_append_left _ ha))
    rw [ht, ht, State.alsoChanges_congr hpar]
    exact hb a (List.mem_append_right _ ha)

/-- A change of registers alone keeps a store's frame. -/
theorem State.storeFrame_regs {s t u : State} {as : List Word} (h : s.storeFrame t as)
    (hu : u = { t with regs := u.regs }) : s.storeFrame u as := by
  obtain ⟨h1, h2, h3, h4, h5, h6, h7, h8, h9, h10, h11, h12, h13, h14, h15⟩ := h
  rw [hu]
  refine ⟨h1, h2, h3, h4, h5, h6, h7, h8, h9, h10, h11, h12, h13, h14, fun b hb => ?_⟩
  rw [← h15 b hb]
  apply State.memRead_congr <;> rfl

/-! ### The effect of a read -/

/-- A read changes a fitted device's own state and IF, and nothing else. -/
theorem State.afterRead_only (s : State) (a : Word) :
    s.afterRead a = { s with others := (s.afterRead a).others, intFlag := (s.afterRead a).intFlag } := by
  have h : ∀ d u, s.setOther d u = { s with others := (s.setOther d u).others, intFlag := (s.setOther d u).intFlag } := by
    intro d u
    obtain ⟨n, b⟩ := u
    cases b <;> rfl
  unfold State.afterRead
  generalize s.target a = x
  cases x <;> try rfl
  simp only [State.afterReadTarget, State.afterReadIo]
  split
  · rfl
  · exact h _ _

/-- A read of anything but a fitted device's register changes nothing (R218). -/
theorem State.afterRead_eq {s : State} {a : Word} (h : ∀ r, s.target a = .io r → s.port r = none) :
    s.afterRead a = s := by
  unfold State.afterRead
  generalize s.target a = x at h
  cases x <;> try rfl
  simp only [State.afterReadTarget, State.afterReadIo, h _ rfl]

@[simp] theorem State.afterRead_target (s : State) (a b : Word) : (s.afterRead a).target b = s.target b := by
  simp [State.target]

/-- What a read does does not depend on the registers. -/
theorem State.afterRead_withRegs (s : State) (r : Regs) (a : Word) :
    ({ s with regs := r } : State).afterRead a = { s.afterRead a with regs := r } := by
  unfold State.afterRead State.target
  generalize busTarget s.params.extRamPresent a = x
  cases x <;> try rfl
  rename_i q
  simp only [State.afterReadTarget, State.afterReadIo, State.port]
  split
  · rfl
  · simp only [State.setOther, State.requestIf, State.request]
    split <;> rfl

/-- What a read does does not depend on the control state. -/
theorem State.afterRead_withCtl (s : State) (c : Control) (a : Word) :
    ({ s with ctl := c } : State).afterRead a = { s.afterRead a with ctl := c } := by
  unfold State.afterRead State.target
  generalize busTarget s.params.extRamPresent a = x
  cases x <;> try rfl
  rename_i q
  simp only [State.afterReadTarget, State.afterReadIo, State.port]
  split
  · rfl
  · simp only [State.setOther, State.requestIf, State.request]
    split <;> rfl

end Sys2Proof.Machine
end

