-- ==== Sys2Proof/Laws/Decode.lean ====
section
/-!
SUPPORT. The laws of the decode tables: each entry of the two maps is the form of the instruction whose encoding
begins with that byte, and every byte has an entry. Provers cite these and never open the maps.
-/

namespace Sys2Proof

/-- A form is the one of the first byte `op`: the instructions it makes are well-formed and encode as it
reads them. -/
def Form.agrees (f : Form) (op : Byte) : Prop :=
  match f with
  | .op8 i => encode i = [op] ∧ i.wellFormed = true
  | .imm8 k => ∀ b, encode (k b) = [op, b] ∧ (k b).wellFormed = true
  | .imm16 k => ∀ w, encode (k w) = [op, loByte w, hiByte w] ∧ (k w).wellFormed = true
  | .cb => op = 0xCB

/-- Every entry of the plain map is the form of its byte (R312). -/
theorem formOf_agrees (op : Byte) : (formOf op).agrees op := by
  obtain ⟨n, hn, rfl⟩ := byte_cases op
  interval_cases n <;> first | exact ⟨rfl, rfl⟩ | exact fun _ => ⟨rfl, rfl⟩ | rfl

/-- Every entry of the CB map encodes as the prefix and its byte (R313). -/
theorem cbOf_encode (op : Byte) : encode (cbOf op) = [0xCB, op] ∧ (cbOf op).wellFormed = true := by
  obtain ⟨n, hn, rfl⟩ := byte_cases op
  interval_cases n <;> exact ⟨rfl, rfl⟩

end Sys2Proof
end

