-- ==== Sys2Proof/Laws/Devices.lean ====
section
/-!
SUPPORT. What a dot and a machine cycle of device time can do, said once: which fields each loop of the system
step leaves, that IF only grows, and that the PPU's invariant is kept.
-/

namespace Sys2Proof.Machine

/-- What one round keeps, all rounds keep. -/
theorem repeatTimes_induct {P : State → Prop} {f : State → State} (h : ∀ s, P s → P (f s)) (n : Nat) {s : State}
    (hs : P s) : P (repeatTimes n f s) := by
  induction n generalizing s with
  | zero => exact hs
  | succ n ih => exact ih (h s hs)

/-- One more round, at the end. -/
theorem repeatTimes_succ (n : Nat) (f : State → State) (s : State) :
    repeatTimes (n + 1) f s = f (repeatTimes n f s) := by
  induction n generalizing s with
  | zero => rfl
  | succ n ih => exact ih (f s)

/-- Rounds add up. -/
theorem repeatTimes_add (m n : Nat) (f : State → State) (s : State) :
    repeatTimes (m + n) f s = repeatTimes n f (repeatTimes m f s) := by
  induction m generalizing s with
  | zero => simp [repeatTimes]
  | succ m ih =>
    rw [Nat.succ_add]
    exact ih (f s)

/-! ### IF only grows -/

/-- Every request pending in `s` is pending in `t`. -/
def State.ifGrows (s t : State) : Prop := s.intFlag &&& ~~~t.intFlag = 0

theorem State.ifGrows_of_eq {s t : State} (h : t.intFlag = s.intFlag) : s.ifGrows t := by
  unfold State.ifGrows
  rw [h]
  generalize s.intFlag = x
  revert x
  decide

theorem State.ifGrows_trans {s t u : State} (h : s.ifGrows t) (k : t.ifGrows u) : s.ifGrows u := by
  unfold State.ifGrows at *
  apply BitVec.eq_of_getLsbD_eq
  intro i hi
  have h1 := congrArg (fun x : BitVec 5 => x.getLsbD i) h
  have h2 := congrArg (fun x : BitVec 5 => x.getLsbD i) k
  simp only [BitVec.getLsbD_and, BitVec.getLsbD_not, hi, decide_true, Bool.true_and] at h1 h2 ⊢
  cases h3 : s.intFlag.getLsbD i
  · simp
  · cases h4 : t.intFlag.getLsbD i
    · simp [h3, h4] at h1
    · simpa [h3, h4] using h2

theorem State.ifGrows_request (s : State) (i : IntSource) : s.ifGrows (s.request i) := by
  unfold State.ifGrows State.request
  simp only
  generalize s.intFlag = x
  revert x
  cases i <;> decide

theorem State.ifGrows_requestIf (s : State) (i : IntSource) (b : Bool) : s.ifGrows (s.requestIf i b) := by
  cases b
  · exact State.ifGrows_of_eq rfl
  · exact State.ifGrows_request s i

/-! ### The PPU -/

/-- `t` differs from `s` in the LCD bank, the PPU, the framebuffer and IF alone. -/
def State.ppuOnly (s t : State) : Prop :=
  t = { s with lcd := t.lcd, ppu := t.ppu, fb := t.fb, intFlag := t.intFlag } ∧ s.ifGrows t

theorem State.ppuOnly_trans {s t u : State} (h : s.ppuOnly t) (k : t.ppuOnly u) : s.ppuOnly u := by
  refine ⟨?_, State.ifGrows_trans h.2 k.2⟩
  rw [k.1, h.1]

theorem State.ppuOnly_of_eq {s t : State} (h : t = { s with lcd := t.lcd, ppu := t.ppu, fb := t.fb }) :
    s.ppuOnly t := by
  have hi : t.intFlag = s.intFlag := by rw [h]
  refine ⟨?_, State.ifGrows_of_eq hi⟩
  rw [hi]
  exact h

theorem State.ppuOnly_requestIf (s : State) (i : IntSource) (b : Bool) : s.ppuOnly (s.requestIf i b) :=
  ⟨by cases b <;> rfl, State.ifGrows_requestIf s i b⟩

theorem State.updateLcdRegs_only (s : State) : s.ppuOnly s.updateLcdRegs :=
  State.ppuOnly_trans (State.ppuOnly_of_eq rfl) (State.ppuOnly_requestIf _ _ _)

theorem State.windowCheck_only (s : State) : s.ppuOnly s.windowCheck := by
  unfold State.windowCheck
  split <;> exact State.ppuOnly_of_eq rfl

theorem State.pushTile_only (s : State) : s.ppuOnly s.pushTile := by
  unfold State.pushTile
  split <;> exact State.ppuOnly_of_eq rfl

theorem State.outputPixel_only (s : State) : s.ppuOnly s.outputPixel := by
  unfold State.outputPixel
  simp only
  split
  · exact State.ppuOnly_of_eq rfl
  · split <;> exact State.ppuOnly_of_eq rfl

theorem State.popPixel_only (s : State) : s.ppuOnly s.popPixel := by
  unfold State.popPixel
  split
  · split
    · exact State.ppuOnly_of_eq rfl
    · exact State.outputPixel_only s
  · exact State.ppuOnly_of_eq rfl

theorem State.drawDot_only (s : State) : s.ppuOnly s.drawDot :=
  State.ppuOnly_trans (State.ppuOnly_trans (State.windowCheck_only s) (State.pushTile_only _))
    (State.popPixel_only _)

theorem State.oamPhase_only (s : State) : s.ppuOnly s.oamPhase := by
  unfold State.oamPhase
  split
  · exact State.ppuOnly_trans (State.ppuOnly_of_eq rfl) (State.drawDot_only _)
  · exact State.ppuOnly_of_eq rfl

theorem State.hBlankPhase_only (s : State) : s.ppuOnly s.hBlankPhase := by
  unfold State.hBlankPhase
  simp only
  split
  · exact State.ppuOnly_trans (State.ppuOnly_of_eq rfl) (State.ppuOnly_requestIf _ .vBlank true)
  · exact State.ppuOnly_of_eq rfl

theorem State.vBlankPhase_only (s : State) : s.ppuOnly s.vBlankPhase := by
  unfold State.vBlankPhase
  simp only
  split <;> exact State.ppuOnly_of_eq rfl

theorem State.runDot_only (s : State) : s.ppuOnly s.runDot := by
  have hl : ∀ (u : State) (n : Nat), u.ppuOnly { u with ppu := { u.ppu with lineDot := n } }.updateLcdRegs :=
    fun u n => State.ppuOnly_trans (State.ppuOnly_of_eq rfl) (State.updateLcdRegs_only _)
  unfold State.runDot
  split
  · exact State.ppuOnly_trans (State.ppuOnly_of_eq rfl) (State.updateLcdRegs_only _)
  · split
    · exact State.ppuOnly_trans (State.oamPhase_only s) (hl _ _)
    · exact State.ppuOnly_trans (State.drawDot_only s) (hl _ _)
    · exact State.ppuOnly_trans (State.hBlankPhase_only s) (hl _ _)
    · exact State.ppuOnly_trans (State.vBlankPhase_only s) (hl _ _)

/-- A PPU dot changes the LCD bank, the PPU, the framebuffer and IF, and nothing else. -/
theorem State.ppuDot_only (s : State) : s.ppuOnly s.ppuDot := by
  unfold State.ppuDot
  split
  · unfold State.lcdOffDot
    refine State.ppuOnly_trans ?_ (State.updateLcdRegs_only _)
    split <;> exact State.ppuOnly_of_eq rfl
  · split
    · exact State.ppuOnly_trans (State.ppuOnly_of_eq rfl) (State.runDot_only _)
    · exact State.runDot_only s

/-! ### OAM DMA and the timers -/

/-- A DMA dot changes the transfer, memory in OAM and the counter of draws, and nothing else. -/
theorem State.dmaDot_only (s : State) :
    s.dmaDot = { s with dma := s.dmaDot.dma, mem := s.dmaDot.mem, draws := s.dmaDot.draws } := by
  unfold State.dmaDot State.dmaCopy State.dmaRead
  split
  · rfl
  · split
    · simp only
      split <;> rfl
    · rfl

theorem State.setTimer_only (s : State) (t : Timer × Bool) :
    s.setTimer t = { s with timer := t.1, intFlag := (s.setTimer t).intFlag } ∧ s.ifGrows (s.setTimer t) :=
  ⟨by obtain ⟨u, b⟩ := t; cases b <;> rfl,
    State.ifGrows_trans (t := { s with timer := t.1 }) (State.ifGrows_of_eq rfl) (State.ifGrows_requestIf _ _ _)⟩

theorem State.setSerial_only (s : State) (t : Serial × Bool) :
    s.setSerial t = { s with serial := t.1, intFlag := (s.setSerial t).intFlag } ∧ s.ifGrows (s.setSerial t) :=
  ⟨by obtain ⟨u, b⟩ := t; cases b <;> rfl,
    State.ifGrows_trans (t := { s with serial := t.1 }) (State.ifGrows_of_eq rfl) (State.ifGrows_requestIf _ _ _)⟩

theorem State.setOther_only (s : State) (d : DeviceKind) (u : Nat × Bool) :
    s.setOther d u = { s with others := s.others.set d u.1, intFlag := (s.setOther d u).intFlag } ∧
      s.ifGrows (s.setOther d u) :=
  ⟨by obtain ⟨n, b⟩ := u; cases b <;> rfl,
    State.ifGrows_trans (t := { s with others := s.others.set d u.1 }) (State.ifGrows_of_eq rfl)
      (State.ifGrows_requestIf _ _ _)⟩

/-- `t` differs from `s` in the timer, the serial unit, the fitted devices' own states and IF alone. -/
def State.timersOnly (s t : State) : Prop :=
  t = { s with timer := t.timer, serial := t.serial, others := t.others, intFlag := t.intFlag } ∧ s.ifGrows t

theorem State.tickTimer_only (s : State) : s.timersOnly s.tickTimer := by
  unfold State.tickTimer
  split
  · have h := s.setTimer_only s.timer.tick
    generalize s.setTimer s.timer.tick = t at h ⊢
    exact ⟨by rw [h.1], h.2⟩
  · rename_i m _
    have h := s.setOther_only .timer (Config.deviceTick .timer m s.others.timer)
    generalize s.setOther _ _ = t at h ⊢
    exact ⟨by rw [h.1], h.2⟩

theorem State.tickSerial_only (s : State) : s.timersOnly s.tickSerial := by
  unfold State.tickSerial
  split
  · have h := s.setSerial_only s.serial.tick
    generalize s.setSerial s.serial.tick = t at h ⊢
    exact ⟨by rw [h.1], h.2⟩
  · rename_i m _
    have h := s.setOther_only .serial (Config.deviceTick .serial m s.others.serial)
    generalize s.setOther _ _ = t at h ⊢
    exact ⟨by rw [h.1], h.2⟩

/-- A machine cycle of the timers changes the timer, the serial unit, the fitted devices' own states and IF, and
nothing else. -/
theorem State.tickTimers_only (s : State) : s.timersOnly s.tickTimers := by
  have h := s.tickTimer_only
  have k := s.tickTimer.tickSerial_only
  unfold State.tickTimers
  generalize s.tickTimer.tickSerial = u at k ⊢
  generalize s.tickTimer = t at h k
  exact ⟨by rw [k.1, h.1], State.ifGrows_trans h.2 k.2⟩

/-! ### All of a step's device time -/

/-- What device time leaves to the CPU. -/
structure DeviceKeeps (s t : State) : Prop where
  regs : t.regs = s.regs
  ctl : t.ctl = s.ctl
  intEnable : t.intEnable = s.intEnable
  joypad : t.joypad = s.joypad
  params : t.params = s.params
  hostInputs : t.hostInputs = s.hostInputs
  ifGrows : s.ifGrows t

theorem DeviceKeeps.refl (s : State) : DeviceKeeps s s :=
  ⟨rfl, rfl, rfl, rfl, rfl, rfl, State.ifGrows_of_eq rfl⟩

theorem DeviceKeeps.trans {s t u : State} (h : DeviceKeeps s t) (k : DeviceKeeps t u) : DeviceKeeps s u :=
  ⟨k.regs.trans h.regs, k.ctl.trans h.ctl, k.intEnable.trans h.intEnable, k.joypad.trans h.joypad,
    k.params.trans h.params, k.hostInputs.trans h.hostInputs, State.ifGrows_trans h.ifGrows k.ifGrows⟩

theorem State.ppuDot_keeps (s : State) : DeviceKeeps s s.ppuDot := by
  obtain ⟨h, hi⟩ := s.ppuDot_only
  generalize s.ppuDot = t at h hi
  exact ⟨by rw [h], by rw [h], by rw [h], by rw [h], by rw [h], by rw [h], hi⟩

theorem State.dmaDot_keeps (s : State) : DeviceKeeps s s.dmaDot := by
  have h := s.dmaDot_only
  generalize s.dmaDot = t at h
  exact ⟨by rw [h], by rw [h], by rw [h], by rw [h], by rw [h], by rw [h], State.ifGrows_of_eq (by rw [h])⟩

theorem State.tickTimers_keeps (s : State) : DeviceKeeps s s.tickTimers := by
  obtain ⟨h, hi⟩ := s.tickTimers_only
  generalize s.tickTimers = t at h hi
  exact ⟨by rw [h], by rw [h], by rw [h], by rw [h], by rw [h], by rw [h], hi⟩

/-- Each loop keeps what its round keeps. -/
theorem DeviceKeeps.rounds {f : State → State} (h : ∀ s, DeviceKeeps s (f s)) (n : Nat) (s : State) :
    DeviceKeeps s (repeatTimes n f s) :=
  repeatTimes_induct (P := DeviceKeeps s) (fun t ht => ht.trans (h t)) n (.refl s)

/-! ### Memory stays canonical -/

theorem State.dmaDot_wf {s : State} (hi : s.dma.index < 160) (h : s.mem.wf) : s.dmaDot.mem.wf := by
  have hb : Memory.backed (0xFE00 + s.dma.index) = true := by
    simp [Memory.backed]
    omega
  unfold State.dmaDot State.dmaCopy State.dmaRead
  split
  · exact h
  · split
    · simp only
      split <;> exact Memory.wf_write _ hb h
    · exact h

/-! ### The PPU's invariant -/

/-- `UpdateLcdRegs` restores the STAT mode. -/
theorem State.updateLcdRegs_lcd (s : State) :
    s.updateLcdRegs.lcd = { s.lcd with statMode := s.ppu.mode, statCoinc := s.lcd.ly == s.lcd.lyc } ∧
      s.updateLcdRegs.fb = s.fb ∧
      s.updateLcdRegs.ppu =
        { s.ppu with
          prevMode := s.ppu.mode
          prevCoinc := s.lcd.ly == s.lcd.lyc
          prevLine := statLine s.lcd s.ppu (s.lcd.ly == s.lcd.lyc)
          lcdJustOn := false } := by
  unfold State.updateLcdRegs
  simp

/-! ### The pixel pipeline -/

@[simp] theorem mergeSprite_length (q p : List ObjPixel) : (mergeSprite q p).length = max q.length p.length := by
  induction q generalizing p with
  | nil => simp [mergeSprite]
  | cons a q ih =>
    cases p with
    | nil => simp [mergeSprite]
    | cons b p => simp [mergeSprite, ih]

@[simp] theorem State.spriteRow_length (s : State) (k : Fin 40) : (s.spriteRow k).length = 8 := by
  unfold State.spriteRow
  simp only
  split
  · rfl
  · rw [List.length_map]
    split
    · rw [List.length_reverse]
      rfl
    · rfl

/-- The sprite FIFO never outgrows a row (R1344). -/
theorem State.fetchSpritesFrom_length (s : State) (l : List SpriteSlot) {q : List ObjPixel} (h : q.length ≤ 8) :
    (s.fetchSpritesFrom l q).2.length ≤ 8 := by
  induction l generalizing q with
  | nil => exact h
  | cons k ks ih =>
    unfold State.fetchSpritesFrom
    simp only
    split
    · apply ih
      simp [h]
    · exact ih h

end Sys2Proof.Machine
end

