-- ==== Sys2Proof/Laws/Exec.lean ====
section
/-!
SUPPORT. One lemma for each family of instructions: exec of the instruction an operand names is the family's
shared operation on that operand. Provers cite these and never unfold exec.
-/

namespace Sys2Proof.Machine

open Sys2Proof

/-! ### Loads -/

theorem exec_loadReg (dst r : Reg8) (s : State) : exec (Instr.loadReg dst r) s = .next (s.loadReg dst r) := by
  cases dst <;> cases r <;> rfl
theorem exec_loadHl (dst : Reg8) (s : State) : exec (Instr.loadHl dst) s = .next (s.loadFrom dst s.hl) := by
  cases dst <;> rfl
theorem exec_storeHl (r : Reg8) (s : State) : exec (Instr.storeHl r) s = .next (s.storeTo s.hl r) := by
  cases r <;> rfl
theorem exec_loadImm (dst : Reg8) (n : Byte) (s : State) :
    exec (Instr.loadImm dst n) s = .next (s.loadByte dst n) := by
  cases dst <;> rfl
theorem exec_loadA (m : RegMem) (s : State) : exec (Instr.loadA m) s = .next (s.loadAMem m) := by
  cases m <;> rfl
theorem exec_storeA (m : RegMem) (s : State) : exec (Instr.storeA m) s = .next (s.storeAMem m) := by
  cases m <;> rfl
theorem exec_loadPair (p : Reg16) (n : Word) (s : State) :
    exec (Instr.loadPair p n) s = .next (s.loadPair p n) := by
  cases p <;> rfl

/-! ### Arithmetic and logic -/

theorem exec_aluOf (op : AluOp) (o : Operand8) (s : State) :
    exec (Instr.aluOf op o) s = .next (s.aluOperand op o) := by
  cases op <;> cases o <;> first | rfl | (rename_i r; cases r <;> rfl)
theorem exec_aluImm (op : AluOp) (n : Byte) (s : State) : exec (Instr.aluImm op n) s = .next (s.aluA op n) := by
  cases op <;> rfl
theorem exec_incOf (o : Operand8) (s : State) : exec (Instr.incOf o) s = .next (s.incOperand o) := by
  cases o <;> first | rfl | (rename_i r; cases r <;> rfl)
theorem exec_decOf (o : Operand8) (s : State) : exec (Instr.decOf o) s = .next (s.decOperand o) := by
  cases o <;> first | rfl | (rename_i r; cases r <;> rfl)
theorem exec_incPair (p : Reg16) (s : State) : exec (Instr.incPair p) s = .next (s.incPair p) := by
  cases p <;> rfl
theorem exec_decPair (p : Reg16) (s : State) : exec (Instr.decPair p) s = .next (s.decPair p) := by
  cases p <;> rfl
theorem exec_addHl (p : Reg16) (s : State) : exec (Instr.addHl p) s = .next (s.addHl p) := by
  cases p <;> rfl

/-! ### The CB space -/

theorem exec_cbShift (y z : BitVec 3) (op : ShiftOp)
    (h : [ShiftOp.rlc, .rrc, .rl, .rr, .sla, .sra, .swap, .srl][y.toNat]? = some op) (s : State) :
    exec (Instr.cbField 0 y z) s = .next (s.shiftOperand op (r8 z)) := by
  rcases three_bits y with rfl | rfl | rfl | rfl | rfl | rfl | rfl | rfl <;> simp at h <;> subst h <;>
    rcases three_bits z with rfl | rfl | rfl | rfl | rfl | rfl | rfl | rfl <;> rfl
theorem exec_cbBit (y z : BitVec 3) (s : State) :
    exec (Instr.cbField 1 y z) s = .next (s.testBit y (r8 z)) := by
  rcases three_bits y with rfl | rfl | rfl | rfl | rfl | rfl | rfl | rfl <;>
    rcases three_bits z with rfl | rfl | rfl | rfl | rfl | rfl | rfl | rfl <;> rfl
theorem exec_cbRes (y z : BitVec 3) (s : State) :
    exec (Instr.cbField 2 y z) s = .next (s.resetBit y (r8 z)) := by
  rcases three_bits y with rfl | rfl | rfl | rfl | rfl | rfl | rfl | rfl <;>
    rcases three_bits z with rfl | rfl | rfl | rfl | rfl | rfl | rfl | rfl <;> rfl
theorem exec_cbSet (y z : BitVec 3) (s : State) :
    exec (Instr.cbField 3 y z) s = .next (s.setBit y (r8 z)) := by
  rcases three_bits y with rfl | rfl | rfl | rfl | rfl | rfl | rfl | rfl <;>
    rcases three_bits z with rfl | rfl | rfl | rfl | rfl | rfl | rfl | rfl <;> rfl

/-! ### Control transfer and stack -/

theorem exec_jumpIf (k : Cond) (a : Word) (s : State) :
    exec (Instr.jumpIf k a) s = .next (s.jumpIf k a) := by
  cases k <;> rfl
theorem exec_jumpRelIf (k : Cond) (e : Byte) (s : State) :
    exec (Instr.jumpRelIf k e) s = .next (s.jumpRelIf k e) := by
  cases k <;> rfl
theorem exec_callIf (k : Cond) (a : Word) (s : State) :
    exec (Instr.callIf k a) s = .next (s.callIf k a) := by
  cases k <;> rfl
theorem exec_retIf (k : Cond) (s : State) : exec (Instr.retIf k) s = .next (s.retIf k) := by
  cases k <;> rfl
theorem exec_rst (y : BitVec 3) (s : State) :
    exec (Instr.rst y) s = .next (s.call (BitVec.ofNat 16 (8 * y.toNat))) := by
  rcases three_bits y with rfl | rfl | rfl | rfl | rfl | rfl | rfl | rfl <;> rfl
theorem exec_push (p : RegStk) (s : State) : exec (Instr.push p) s = .next (s.pushStk p) := by
  cases p <;> rfl
theorem exec_pop (p : RegStk) (s : State) : exec (Instr.pop p) s = .next (s.popStk p) := by
  cases p <;> rfl

/-! ### Shared operations -/

/-- A store does not depend on the registers. -/
theorem State.memWrite_withRegs (s : State) (r : Regs) (a : Word) (v : Byte) :
    ({ s with regs := r } : State).memWrite a v = { s.memWrite a v with regs := r } := by
  unfold State.memWrite State.target
  generalize busTarget s.params.extRamPresent a = x
  cases x with
  | io q =>
    simp only [State.writeTarget, State.writeIo, State.port]
    split
    · cases q <;> simp only [State.writeOwn, State.setTimer, State.setJoypad, State.setLcd, State.setPalette,
        State.startDma, State.requestIf, State.request] <;>
        first | rfl | (split <;> rfl)
    · simp only [State.setOther, State.requestIf, State.request]
      split <;> rfl
  | _ => simp only [State.writeTarget] <;> first | rfl | (split <;> rfl)

/-- A store and an SP update commute. -/
theorem State.setSp_memWrite (s : State) (v a : Word) (b : Byte) :
    (s.setSp v).memWrite a b = (s.memWrite a b).setSp v := by
  unfold State.setSp
  rw [State.memWrite_withRegs]
  simp

/-- A read and an SP update commute. -/
theorem State.setSp_afterRead (s : State) (v a : Word) : (s.setSp v).afterRead a = (s.afterRead a).setSp v := by
  unfold State.setSp
  rw [State.afterRead_withRegs]
  simp

/-- A push is two stores, high byte first, and SP down by 2. -/
theorem State.push16_eq (s : State) (v : Word) :
    s.push16 v =
      { (s.memWrite (s.regs.sp - 1) (hiByte v)).memWrite (s.regs.sp - 2) (loByte v) with
        regs := { s.regs with sp := s.regs.sp - 2 } } := by
  have h2 : s.regs.sp - 1 - 1 = s.regs.sp - 2 := by
    rw [BitVec.sub_sub]
    rfl
  simp only [State.push16, State.setSp_memWrite, State.setSp_sp, h2]
  simp [State.setSp]

/-- A pop reads the low byte at SP and then the high byte above it, and SP goes up by 2. -/
theorem State.pop16_eq (s : State) :
    s.pop16 =
      (wordOf ((s.afterRead s.regs.sp).memRead (s.regs.sp + 1)) (s.memRead s.regs.sp),
        { s.afterReads s.regs.sp 2 with regs := { s.regs with sp := s.regs.sp + 2 } }) := by
  have h2 : s.regs.sp + 1 + 1 = s.regs.sp + 2 := by
    rw [BitVec.add_assoc]
    rfl
  simp only [State.pop16, State.setSp_memRead, State.setSp_sp, h2, State.afterReads, State.setSp_afterRead]
  simp [State.setSp]

end Sys2Proof.Machine
end

