-- ==== Sys2Proof/Laws/Launch.lean ====
section
/-!
SUPPORT. The laws of the session start: the memory of every launch is in canonical form, and its ROM reads the
cartridge image.
-/

namespace Sys2Proof.Machine

theorem romFrom_mem {a : Nat} {image : List Byte} {c : Host.Cell} (h : c ∈ romFrom a image) :
    a ≤ c.1 ∧ c.1 < 0x8000 ∧ c.2 ≠ Memory.unlisted c.1 := by
  induction image generalizing a with
  | nil => cases h
  | cons v vs ih =>
    unfold romFrom at h
    split at h
    · cases h
    · split at h
      · have := ih h
        exact ⟨by omega, this.2⟩
      · rcases List.mem_cons.1 h with rfl | h
        · exact ⟨le_refl _, by omega, by assumption⟩
        · have := ih h
          exact ⟨by omega, this.2⟩

theorem romFrom_rising (a : Nat) (image : List Byte) :
    (romFrom a image).Pairwise fun c d => c.1 < d.1 := by
  induction image generalizing a with
  | nil => exact List.Pairwise.nil
  | cons v vs ih =>
    unfold romFrom
    split
    · exact List.Pairwise.nil
    · split
      · exact ih _
      · exact List.pairwise_cons.2 ⟨fun c hc => (romFrom_mem hc).1, ih _⟩

/-- ROM memory is in canonical form. -/
theorem romOf_wf (image : List Byte) : (romOf image).wf :=
  ⟨⟨romFrom_rising _ _, fun _ hc => (romFrom_mem hc).2.2⟩, fun c hc => by
    have h : c.1 < 0x8000 := (romFrom_mem hc).2.1
    simp only [Memory.backed, Bool.or_eq_true, decide_eq_true_eq]
    exact .inl (.inl (by omega))⟩

/-- ROM reads the image, and 0xFF past its end (R202). -/
theorem romFrom_read {a k : Nat} (image : List Byte) (ha : a ≤ k) (hk : k < 0x8000) :
    Memory.read (romFrom a image) k = image.getD (k - a) 0xFF := by
  have hu : Memory.unlisted k = 0xFF := if_pos hk
  induction image generalizing a with
  | nil => exact hu
  | cons v vs ih =>
    unfold romFrom
    rw [if_neg (show ¬ 0x8000 ≤ a by omega)]
    by_cases hak : a = k
    · subst hak
      rw [Nat.sub_self]
      have hr : ∀ l : List Byte, Memory.read (romFrom (a + 1) l) a = Memory.unlisted a := by
        intro l
        have hm : ∀ c ∈ romFrom (a + 1) l, c.1 ≠ a := fun c hc => by
          have := (romFrom_mem hc).1
          omega
        generalize romFrom (a + 1) l = m at hm
        induction m with
        | nil => rfl
        | cons c m ih' =>
          unfold Memory.read Sparse.read
          rw [if_neg (hm c List.mem_cons_self)]
          exact ih' fun d hd => hm d (List.mem_cons_of_mem _ hd)
      split
      · rename_i hv
        rw [hr, hv]
        rfl
      · simp [Memory.read, Sparse.read]
    · have h1 : k - a = (k - (a + 1)) + 1 := by omega
      have h2 := ih (a := a + 1) (by omega)
      rw [h1, List.getD_cons_succ]
      split
      · exact h2
      · unfold Memory.read Sparse.read
        rw [if_neg hak]
        exact h2

theorem initCell_wf {m : Memory} (c : Host.Cell) (h : m.wf) : (initCell m c).wf := by
  unfold initCell
  split
  · rename_i hc
    exact Memory.wf_write _ hc.2 h
  · exact h

/-- `InitMem` does not reach ROM (R129). -/
theorem initCell_read {m : Memory} (c : Host.Cell) {k : Nat} (hk : k < 0x8000) : (initCell m c).read k = m.read k := by
  unfold initCell
  split
  · rename_i hc
    exact Memory.read_write_other _ _ (by omega)
  · rfl

/-- The memory of every launch is in canonical form. -/
theorem Launch.reset_wf (l : Launch) : l.reset.mem.wf := by
  have h : ∀ (cs : List Host.Cell) (m : Memory), m.wf → (cs.foldl initCell m).wf := by
    intro cs
    induction cs with
    | nil => exact fun _ h => h
    | cons c cs ih => exact fun m h => ih _ (initCell_wf c h)
  exact h _ _ (romOf_wf _)

/-- The ROM of every launch is its image's. -/
theorem Launch.reset_rom (l : Launch) {k : Nat} (hk : k < 0x8000) :
    l.reset.mem.read k = (romOf l.image).read k := by
  have h : ∀ (cs : List Host.Cell) (m : Memory), (cs.foldl initCell m).read k = m.read k := by
    intro cs
    induction cs with
    | nil => exact fun _ => rfl
    | cons c cs ih => exact fun m => (ih _).trans (initCell_read c hk)
  exact h _ _

end Sys2Proof.Machine
end

