-- ==== Sys2Proof/Laws/Step.lean ====
section
/-!
SUPPORT. What an instruction, a dot and a step can do, said once: what exec keeps whatever the instruction, what
device time leaves, and the cases of a system step. Provers of whole-machine statements cite these and never
split the 512 arms or unfold the loops.
-/

namespace Sys2Proof.Machine

open Sys2Proof

/-! ### What the CPU's effect keeps, whatever the instruction -/

/-- What no instruction and no interrupt entry changes, and what each of them keeps. -/
structure CpuKeeps (s t : State) : Prop where
  params : t.params = s.params
  ppu : t.ppu = s.ppu
  fb : t.fb = s.fb
  hostInputs : t.hostInputs = s.hostInputs
  draws : t.draws = s.draws
  ly : t.lcd.ly = s.lcd.ly
  statMode : t.lcd.statMode = s.lcd.statMode
  mem : s.mem.wf → t.mem.wf
  f : s.regs.f &&& 0x0F = 0 → t.regs.f &&& 0x0F = 0
  imeDelay : s.ctl.imeDelay ≤ 2 → t.ctl.imeDelay ≤ 2
  haltSkip : t.ctl.haltSkip = true → s.ctl.haltSkip = true ∨ s.params.haltBug = true
  dma : t.dma = s.dma ∨ (t.dma.active = true ∧ t.dma.index = 0 ∧ t.dma.sub = 0)
  serial : s.serial.left ≤ 1024 → t.serial.left ≤ 1024

theorem CpuKeeps.refl (s : State) : CpuKeeps s s :=
  ⟨rfl, rfl, rfl, rfl, rfl, rfl, rfl, id, id, id, .inl, .inl rfl, id⟩

theorem CpuKeeps.trans {s t u : State} (h : CpuKeeps s t) (k : CpuKeeps t u) : CpuKeeps s u where
  params := k.params.trans h.params
  ppu := k.ppu.trans h.ppu
  fb := k.fb.trans h.fb
  hostInputs := k.hostInputs.trans h.hostInputs
  draws := k.draws.trans h.draws
  ly := k.ly.trans h.ly
  statMode := k.statMode.trans h.statMode
  mem := fun x => k.mem (h.mem x)
  f := fun x => k.f (h.f x)
  imeDelay := fun x => k.imeDelay (h.imeDelay x)
  haltSkip := fun x => (k.haltSkip x).elim h.haltSkip fun y => .inr (h.params ▸ y)
  dma := k.dma.elim (fun e => e ▸ h.dma) .inr
  serial := fun x => k.serial (h.serial x)

/-- A change of registers alone, F's low nibble kept. -/
theorem CpuKeeps.ofRegs {s t : State} (h : t = { s with regs := t.regs })
    (hf : s.regs.f &&& 0x0F = 0 → t.regs.f &&& 0x0F = 0) : CpuKeeps s t := by
  generalize t.regs = r at h hf
  subst h
  exact ⟨rfl, rfl, rfl, rfl, rfl, rfl, rfl, id, hf, id, .inl, .inl rfl, id⟩

theorem cpuKeeps_setReg (s : State) (r : Reg8) (v : Byte) : CpuKeeps s (s.setReg r v) :=
  .ofRegs (by cases r <;> rfl) (by cases r <;> exact id)
theorem cpuKeeps_setF (s : State) (v : Byte) : CpuKeeps s (s.setF v) := .ofRegs rfl fun _ => s.setF_low v
theorem cpuKeeps_merge {w : Nat} (s : State) (r : AluResult w) : CpuKeeps s (s.merge r) := cpuKeeps_setF _ _
theorem cpuKeeps_setPc (s : State) (v : Word) : CpuKeeps s (s.setPc v) := .ofRegs rfl id
theorem cpuKeeps_setSp (s : State) (v : Word) : CpuKeeps s (s.setSp v) := .ofRegs rfl id
theorem cpuKeeps_setPair (s : State) (p : Reg16) (v : Word) : CpuKeeps s (s.setPair p v) :=
  .ofRegs (by cases p <;> rfl) (by cases p <;> exact id)
theorem cpuKeeps_stepHl (s : State) (m : RegMem) : CpuKeeps s (s.stepHl m) := by
  cases m
  · exact .refl s
  · exact .refl s
  · exact cpuKeeps_setPair s .hl _
  · exact cpuKeeps_setPair s .hl _
theorem cpuKeeps_setStk (s : State) (p : RegStk) (v : Word) : CpuKeeps s (s.setStk p v) := by
  cases p
  · exact cpuKeeps_setPair s .bc v
  · exact cpuKeeps_setPair s .de v
  · exact cpuKeeps_setPair s .hl v
  · exact (cpuKeeps_setReg s .a _).trans (cpuKeeps_setF _ _)

/-- Control state alone. -/
theorem CpuKeeps.ofCtl {s t : State} (h : t = { s with ctl := t.ctl })
    (hi : s.ctl.imeDelay ≤ 2 → t.ctl.imeDelay ≤ 2)
    (hs : t.ctl.haltSkip = true → s.ctl.haltSkip = true ∨ s.params.haltBug = true) : CpuKeeps s t := by
  generalize t.ctl = c at h hi hs
  subst h
  exact ⟨rfl, rfl, rfl, rfl, rfl, rfl, rfl, id, id, hi, hs, .inl rfl, id⟩

theorem cpuKeeps_setIme (s : State) (v : Bool) : CpuKeeps s (s.setIme v) := .ofCtl rfl (fun _ => Nat.zero_le _) .inl
theorem cpuKeeps_raise (s : State) (op : Byte) : CpuKeeps s (s.raise op) := .ofCtl rfl id .inl
theorem cpuKeeps_armIme (s : State) : CpuKeeps s s.armIme := .ofCtl rfl (fun _ => le_refl _) .inl
theorem cpuKeeps_enterHalt (s : State) : CpuKeeps s s.enterHalt := .ofCtl rfl id .inl
theorem cpuKeeps_halt (s : State) : CpuKeeps s s.halt := by
  unfold State.halt
  split
  · rename_i h
    refine .ofCtl rfl id fun _ => .inr ?_
    simp only [Bool.and_eq_true] at h
    exact h.1.1
  · exact cpuKeeps_enterHalt s
theorem cpuKeeps_stop (s : State) : CpuKeeps s s.stop := by
  unfold State.stop
  split
  · exact cpuKeeps_enterHalt s
  · exact cpuKeeps_raise s _
theorem cpuKeeps_applyEi (s : State) : CpuKeeps s s.applyEi := by
  unfold State.applyEi
  split
  · exact .refl s
  · split
    · exact .ofCtl rfl (fun _ => Nat.zero_le _) .inl
    · exact .ofCtl rfl (fun h => (Nat.sub_le _ _).trans h) .inl

/-- A fitted device's own state and IF alone. -/
theorem CpuKeeps.ofOthers {s t : State} (h : t = { s with others := t.others, intFlag := t.intFlag }) :
    CpuKeeps s t := by
  generalize t.others = o at h
  generalize t.intFlag = n at h
  subst h
  exact ⟨rfl, rfl, rfl, rfl, rfl, rfl, rfl, id, id, id, .inl, .inl rfl, id⟩

theorem cpuKeeps_setOther (s : State) (d : DeviceKind) (u : Nat × Bool) : CpuKeeps s (s.setOther d u) :=
  .ofOthers (by obtain ⟨n, b⟩ := u; cases b <;> rfl)
theorem cpuKeeps_afterRead (s : State) (a : Word) : CpuKeeps s (s.afterRead a) := .ofOthers (s.afterRead_only a)
theorem cpuKeeps_afterOperand (s : State) (o : Operand8) : CpuKeeps s (s.afterOperand o) := by
  cases o
  · exact .refl s
  · exact cpuKeeps_afterRead _ _

/-- A device's own field, and IF. -/
theorem cpuKeeps_writeOwn (s : State) (r : IoReg) (v : Byte) : CpuKeeps s (s.writeOwn r v) := by
  cases r <;> simp only [State.writeOwn]
  case dma => exact ⟨rfl, rfl, rfl, rfl, rfl, rfl, rfl, id, id, id, .inl, .inr ⟨rfl, rfl, rfl⟩, id⟩
  case sc =>
    refine ⟨rfl, rfl, rfl, rfl, rfl, rfl, rfl, id, id, id, .inl, .inl rfl, fun h => ?_⟩
    simp only [Serial.writeSc]
    split <;> omega
  case bgp | obp0 | obp1 =>
    unfold State.setPalette
    split <;> exact ⟨rfl, rfl, rfl, rfl, rfl, rfl, rfl, id, id, id, .inl, .inl rfl, id⟩
  case p1 | div | tima | tma | tac => exact ⟨by simp, by simp, by simp, by simp, by simp, by simp, by simp, by simp, by simp, by simp, by simp; exact .inl, by simp, by simp⟩
  all_goals exact ⟨rfl, rfl, rfl, rfl, rfl, rfl, rfl, id, id, id, .inl, .inl rfl, id⟩

theorem cpuKeeps_writeIo (s : State) (r : IoReg) (v : Byte) : CpuKeeps s (s.writeIo r v) := by
  unfold State.writeIo
  split
  · exact cpuKeeps_writeOwn _ _ _
  · exact cpuKeeps_setOther _ _ _

theorem cpuKeeps_memWrite (s : State) (a : Word) (v : Byte) : CpuKeeps s (s.memWrite a v) := by
  have hm := State.memWrite_wf (s := s) a v
  unfold State.memWrite at hm ⊢
  generalize s.target a = x at hm ⊢
  cases x with
  | io r => exact cpuKeeps_writeIo s r v
  | ie => exact ⟨rfl, rfl, rfl, rfl, rfl, rfl, rfl, id, id, id, .inl, .inl rfl, id⟩
  | rom k => exact .refl s
  | openBus => exact .refl s
  | ram k => exact ⟨rfl, rfl, rfl, rfl, rfl, rfl, rfl, hm, id, id, .inl, .inl rfl, id⟩
  | vram k =>
    simp only [State.writeTarget] at hm ⊢
    split at hm
    · simpa [*] using CpuKeeps.refl s
    · simp only [*]
      exact ⟨rfl, rfl, rfl, rfl, rfl, rfl, rfl, hm, id, id, .inl, .inl rfl, id⟩
  | oam k =>
    simp only [State.writeTarget] at hm ⊢
    split at hm
    · simpa [*] using CpuKeeps.refl s
    · simp only [*]
      exact ⟨rfl, rfl, rfl, rfl, rfl, rfl, rfl, hm, id, id, .inl, .inl rfl, id⟩

theorem cpuKeeps_memWrite16 (s : State) (a v : Word) : CpuKeeps s (s.memWrite16 a v) :=
  (cpuKeeps_memWrite _ _ _).trans (cpuKeeps_memWrite _ _ _)
theorem cpuKeeps_setOperand (s : State) (o : Operand8) (v : Byte) : CpuKeeps s (s.setOperand o v) := by
  cases o
  · exact cpuKeeps_setReg _ _ _
  · exact cpuKeeps_memWrite _ _ _
theorem cpuKeeps_push16 (s : State) (v : Word) : CpuKeeps s (s.push16 v) :=
  (((cpuKeeps_setSp _ _).trans (cpuKeeps_memWrite _ _ _)).trans (cpuKeeps_setSp _ _)).trans (cpuKeeps_memWrite _ _ _)
theorem cpuKeeps_pop16 (s : State) : CpuKeeps s s.pop16.2 :=
  (((cpuKeeps_afterRead _ _).trans (cpuKeeps_setSp _ _)).trans (cpuKeeps_afterRead _ _)).trans (cpuKeeps_setSp _ _)
theorem cpuKeeps_ret (s : State) : CpuKeeps s s.ret := (cpuKeeps_pop16 _).trans (cpuKeeps_setPc _ _)

theorem cpuKeeps_dispatch (s : State) (i : IntSource) : CpuKeeps s (s.dispatch i) := by
  refine CpuKeeps.trans ?_ ((cpuKeeps_push16 _ _).trans (cpuKeeps_setPc _ _))
  exact ⟨rfl, rfl, rfl, rfl, rfl, rfl, rfl, id, id, fun _ => Nat.zero_le _, .inl, .inl rfl, id⟩

theorem cpuKeeps_operandOp (s : State) (o : Operand8) (v : Byte) {w : Nat} (r : AluResult w) :
    CpuKeeps s (((s.afterOperand o).setOperand o v).merge r) :=
  ((cpuKeeps_afterOperand _ _).trans (cpuKeeps_setOperand _ _ _)).trans (cpuKeeps_merge _ _)
theorem cpuKeeps_regOp (s : State) (o : Reg8) (v : Byte) {w : Nat} (r : AluResult w) :
    CpuKeeps s ((s.setReg o v).merge r) :=
  (cpuKeeps_setReg _ _ _).trans (cpuKeeps_merge _ _)
theorem cpuKeeps_pairOp (s : State) (p : Reg16) (v : Word) {w : Nat} (r : AluResult w) :
    CpuKeeps s ((s.setPair p v).merge r) :=
  (cpuKeeps_setPair _ _ _).trans (cpuKeeps_merge _ _)
theorem cpuKeeps_jumpIf (s : State) (k : Cond) (a : Word) : CpuKeeps s (s.jumpIf k a) := by
  unfold State.jumpIf
  split <;> [exact cpuKeeps_setPc _ _; exact .refl s]
theorem cpuKeeps_jumpRelIf (s : State) (k : Cond) (e : Byte) : CpuKeeps s (s.jumpRelIf k e) := by
  unfold State.jumpRelIf
  split <;> [exact cpuKeeps_setPc _ _; exact .refl s]
theorem cpuKeeps_call (s : State) (a : Word) : CpuKeeps s (s.call a) :=
  (cpuKeeps_push16 _ _).trans (cpuKeeps_setPc _ _)
theorem cpuKeeps_callIf (s : State) (k : Cond) (a : Word) : CpuKeeps s (s.callIf k a) := by
  unfold State.callIf
  split <;> [exact cpuKeeps_call _ _; exact .refl s]
theorem cpuKeeps_retIf (s : State) (k : Cond) : CpuKeeps s (s.retIf k) := by
  unfold State.retIf
  split <;> [exact cpuKeeps_ret _; exact .refl s]
theorem cpuKeeps_loadReg (s : State) (dst r : Reg8) : CpuKeeps s (s.loadReg dst r) :=
  cpuKeeps_setReg _ _ _
theorem cpuKeeps_loadFrom (s : State) (dst : Reg8) (a : Word) : CpuKeeps s (s.loadFrom dst a) :=
  (cpuKeeps_afterRead _ _).trans (cpuKeeps_setReg _ _ _)
theorem cpuKeeps_storeTo (s : State) (a : Word) (r : Reg8) : CpuKeeps s (s.storeTo a r) :=
  cpuKeeps_memWrite _ _ _
theorem cpuKeeps_loadByte (s : State) (dst : Reg8) (n : Byte) : CpuKeeps s (s.loadByte dst n) :=
  cpuKeeps_setReg _ _ _
theorem cpuKeeps_storeByte (s : State) (a : Word) (n : Byte) : CpuKeeps s (s.storeByte a n) :=
  cpuKeeps_memWrite _ _ _
theorem cpuKeeps_loadAMem (s : State) (m : RegMem) : CpuKeeps s (s.loadAMem m) :=
  ((cpuKeeps_afterRead _ _).trans (cpuKeeps_setReg _ _ _)).trans (cpuKeeps_stepHl _ _)
theorem cpuKeeps_storeAMem (s : State) (m : RegMem) : CpuKeeps s (s.storeAMem m) :=
  (cpuKeeps_memWrite _ _ _).trans (cpuKeeps_stepHl _ _)
theorem cpuKeeps_loadPair (s : State) (p : Reg16) (n : Word) : CpuKeeps s (s.loadPair p n) :=
  cpuKeeps_setPair _ _ _
theorem cpuKeeps_storeSp (s : State) (a : Word) : CpuKeeps s (s.storeSp a) :=
  cpuKeeps_memWrite16 _ _ _
theorem cpuKeeps_loadSpHl (s : State) : CpuKeeps s (s.loadSpHl) :=
  cpuKeeps_setSp _ _
theorem cpuKeeps_loadHlSpOffset (s : State) (e : Byte) : CpuKeeps s (s.loadHlSpOffset e) :=
  cpuKeeps_pairOp _ _ _ _
theorem cpuKeeps_aluA (s : State) (op : AluOp) (v : Byte) : CpuKeeps s (s.aluA op v) :=
  cpuKeeps_regOp _ _ _ _
theorem cpuKeeps_aluOperand (s : State) (op : AluOp) (o : Operand8) : CpuKeeps s (s.aluOperand op o) :=
  (cpuKeeps_afterOperand _ _).trans (cpuKeeps_aluA _ _ _)
theorem cpuKeeps_incOperand (s : State) (o : Operand8) : CpuKeeps s (s.incOperand o) :=
  cpuKeeps_operandOp _ _ _ _
theorem cpuKeeps_decOperand (s : State) (o : Operand8) : CpuKeeps s (s.decOperand o) :=
  cpuKeeps_operandOp _ _ _ _
theorem cpuKeeps_incPair (s : State) (p : Reg16) : CpuKeeps s (s.incPair p) :=
  cpuKeeps_setPair _ _ _
theorem cpuKeeps_decPair (s : State) (p : Reg16) : CpuKeeps s (s.decPair p) :=
  cpuKeeps_setPair _ _ _
theorem cpuKeeps_addHl (s : State) (p : Reg16) : CpuKeeps s (s.addHl p) :=
  cpuKeeps_pairOp _ _ _ _
theorem cpuKeeps_addSp (s : State) (e : Byte) : CpuKeeps s (s.addSp e) :=
  (cpuKeeps_setSp _ _).trans (cpuKeeps_merge _ _)
theorem cpuKeeps_daaA (s : State) : CpuKeeps s (s.daaA) :=
  cpuKeeps_regOp _ _ _ _
theorem cpuKeeps_cplA (s : State) : CpuKeeps s (s.cplA) :=
  cpuKeeps_regOp _ _ _ _
theorem cpuKeeps_rotateA (s : State) (op : ShiftOp) : CpuKeeps s (s.rotateA op) :=
  cpuKeeps_regOp _ _ _ _
theorem cpuKeeps_shiftOperand (s : State) (op : ShiftOp) (o : Operand8) : CpuKeeps s (s.shiftOperand op o) :=
  cpuKeeps_operandOp _ _ _ _
theorem cpuKeeps_testBit (s : State) (b : BitVec 3) (o : Operand8) : CpuKeeps s (s.testBit b o) :=
  (cpuKeeps_afterOperand _ _).trans (cpuKeeps_merge _ _)
theorem cpuKeeps_resetBit (s : State) (b : BitVec 3) (o : Operand8) : CpuKeeps s (s.resetBit b o) :=
  (cpuKeeps_afterOperand _ _).trans (cpuKeeps_setOperand _ _ _)
theorem cpuKeeps_setBit (s : State) (b : BitVec 3) (o : Operand8) : CpuKeeps s (s.setBit b o) :=
  (cpuKeeps_afterOperand _ _).trans (cpuKeeps_setOperand _ _ _)
theorem cpuKeeps_prefixed (s : State) (b : Byte) : CpuKeeps s (s.prefixed b) := by
  unfold State.prefixed
  simp only
  split
  · exact cpuKeeps_shiftOperand _ _ _
  · exact cpuKeeps_testBit _ _ _
  · exact cpuKeeps_resetBit _ _ _
  · exact cpuKeeps_setBit _ _ _
theorem cpuKeeps_jumpRel (s : State) (e : Byte) : CpuKeeps s (s.jumpRel e) :=
  cpuKeeps_setPc _ _
theorem cpuKeeps_pushStk (s : State) (p : RegStk) : CpuKeeps s (s.pushStk p) :=
  cpuKeeps_push16 _ _
theorem cpuKeeps_popStk (s : State) (p : RegStk) : CpuKeeps s (s.popStk p) :=
  (cpuKeeps_pop16 _).trans (cpuKeeps_setStk _ _ _)
theorem cpuKeeps_retInterrupt (s : State) : CpuKeeps s (s.retInterrupt) :=
  (cpuKeeps_ret _).trans (cpuKeeps_setIme _ _)

set_option maxRecDepth 4000 in
/-- Every instruction answers a next state, and keeps what `CpuKeeps` says. -/
theorem exec_keeps (i : Instr) (s : State) : ∃ t, exec i s = .next t ∧ CpuKeeps s t := by
  cases i <;> refine ⟨_, rfl, ?_⟩ <;>
    simp only [cpuKeeps_loadReg, cpuKeeps_loadFrom, cpuKeeps_storeTo, cpuKeeps_loadByte, cpuKeeps_storeByte,
      cpuKeeps_loadAMem, cpuKeeps_storeAMem, cpuKeeps_loadPair, cpuKeeps_storeSp, cpuKeeps_loadSpHl,
      cpuKeeps_loadHlSpOffset, cpuKeeps_aluA, cpuKeeps_aluOperand, cpuKeeps_incOperand, cpuKeeps_decOperand, cpuKeeps_incPair,
      cpuKeeps_decPair, cpuKeeps_addHl, cpuKeeps_addSp, cpuKeeps_daaA, cpuKeeps_cplA, cpuKeeps_rotateA,
      cpuKeeps_shiftOperand, cpuKeeps_testBit, cpuKeeps_resetBit, cpuKeeps_setBit, cpuKeeps_jumpRel,
      cpuKeeps_pushStk, cpuKeeps_popStk, cpuKeeps_retInterrupt, cpuKeeps_jumpIf, cpuKeeps_jumpRelIf,
      cpuKeeps_call, cpuKeeps_callIf, cpuKeeps_ret, cpuKeeps_retIf, cpuKeeps_raise, cpuKeeps_merge,
      cpuKeeps_setPc, cpuKeeps_stop, cpuKeeps_setIme, cpuKeeps_prefixed, cpuKeeps_halt, cpuKeeps_armIme,
      CpuKeeps.refl]

/-! ### Fetching -/

theorem cpuKeeps_fetch8 (s : State) : CpuKeeps s s.fetch8.2 := by
  unfold State.fetch8
  split
  · exact (cpuKeeps_afterRead _ _).trans (.ofCtl rfl id (fun h => by cases h))
  · exact (cpuKeeps_afterRead _ _).trans (cpuKeeps_setPc _ _)

theorem cpuKeeps_fetchDecode (s : State) : CpuKeeps s s.fetchDecode.2 := by
  have h0 : CpuKeeps s { s with ctl := { s.ctl with opcodeAddr := s.regs.pc } } := .ofCtl rfl id .inl
  unfold State.fetchDecode
  simp only
  split
  · exact h0.trans (cpuKeeps_fetch8 _)
  · exact h0.trans ((cpuKeeps_fetch8 _).trans (cpuKeeps_fetch8 _))
  · exact h0.trans ((cpuKeeps_fetch8 _).trans ((cpuKeeps_fetch8 _).trans (cpuKeeps_fetch8 _)))
  · exact h0.trans ((cpuKeeps_fetch8 _).trans (cpuKeeps_fetch8 _))

/-- Reading memory looks at no register and no control state. -/
theorem State.memRead_withCpu (s : State) (c : Control) (r : Regs) (a : Word) :
    ({ s with ctl := c, regs := r } : State).memRead a = s.memRead a :=
  State.memRead_congr rfl rfl rfl rfl rfl rfl rfl rfl rfl rfl a

/-- Nor does what a read does. -/
theorem State.afterRead_withCpu (s : State) (c : Control) (r : Regs) (a : Word) :
    ({ s with ctl := c, regs := r } : State).afterRead a = { s.afterRead a with ctl := c, regs := r } := by
  rw [show ({ s with ctl := c, regs := r } : State) = { ({ s with ctl := c } : State) with regs := r } from rfl,
    State.afterRead_withRegs, State.afterRead_withCtl]

/-- The state in which the `n` bytes of the instruction at pc have been fetched. -/
def State.fetched (s : State) (n : Nat) : State :=
  { s.afterReads s.regs.pc n with
    regs := { s.regs with pc := s.regs.pc + BitVec.ofNat 16 n }
    ctl := { s.ctl with opcodeAddr := s.regs.pc } }

/-- One more byte read. -/
theorem State.afterReads_succ (s : State) (a : Word) (n : Nat) :
    s.afterReads a (n + 1) = (s.afterReads a n).afterRead (a + BitVec.ofNat 16 n) := by
  induction n generalizing s a with
  | zero => simp [State.afterReads]
  | succ n ih =>
    rw [State.afterReads, ih, State.afterReads]
    congr 1
    rw [BitVec.add_assoc]
    congr 1
    apply BitVec.eq_of_toNat_eq
    simp [Nat.add_comm]

theorem State.fetch8_plain {s : State} (h : s.ctl.haltSkip = false) :
    s.fetch8 = (s.memRead s.regs.pc, (s.afterRead s.regs.pc).setPc (s.regs.pc + 1)) := by
  unfold State.fetch8
  simp [h]

theorem State.fetch8_fetched {s : State} (h : s.ctl.haltSkip = false) (n : Nat) :
    (s.fetched n).fetch8 =
      ((s.afterReads s.regs.pc n).memRead (s.regs.pc + BitVec.ofNat 16 n), s.fetched (n + 1)) := by
  have hp : (s.fetched n).regs.pc = s.regs.pc + BitVec.ofNat 16 n := rfl
  have h2 : s.regs.pc + BitVec.ofNat 16 n + 1 = s.regs.pc + BitVec.ofNat 16 (n + 1) := by
    rw [BitVec.add_assoc]
    congr 1
    apply BitVec.eq_of_toNat_eq
    simp
  rw [State.fetch8_plain (show (s.fetched n).ctl.haltSkip = false from h), hp]
  refine Prod.ext (State.memRead_withCpu _ _ _ _) ?_
  simp only [h2]
  unfold State.fetched
  rw [State.afterRead_withCpu, ← State.afterReads_succ]
  rfl

/-- With no refetch pending, fetch and decode give the instruction of the bytes at pc, each read after the
effect of the one before, and the state past it. -/
theorem State.fetchDecode_plain {s : State} (h : s.ctl.haltSkip = false) {i : Instr} {rest : List Byte}
    (hd : decode [s.memRead s.regs.pc, (s.afterReads s.regs.pc 1).memRead (s.regs.pc + 1),
      (s.afterReads s.regs.pc 2).memRead (s.regs.pc + 2)] = .ok (i, rest)) :
    s.fetchDecode = (i, s.fetched i.length) := by
  have ha := formOf_agrees (s.memRead s.regs.pc)
  have h0 : ({ s with ctl := { s.ctl with opcodeAddr := s.regs.pc } } : State) = s.fetched 0 := by
    simp [State.fetched, State.afterReads]
  unfold State.fetchDecode
  simp only [h0, State.fetch8_fetched h]
  simp only [decode] at hd
  rw [show (s.afterReads s.regs.pc 0).memRead (s.regs.pc + BitVec.ofNat 16 0) = s.memRead s.regs.pc by
      simp [State.afterReads],
    show s.regs.pc + BitVec.ofNat 16 (0 + 1) = s.regs.pc + 1 from rfl,
    show s.regs.pc + BitVec.ofNat 16 (0 + 1 + 1) = s.regs.pc + 2 from rfl]
  generalize formOf (s.memRead s.regs.pc) = f at ha hd ⊢
  cases f with
  | op8 j =>
    cases hd
    simp only [Instr.length, ha.1]
    rfl
  | imm8 k =>
    cases hd
    simp only [Instr.length, (ha _).1]
    rfl
  | imm16 k =>
    cases hd
    simp only [Instr.length, (ha _).1]
    rfl
  | cb =>
    cases hd
    simp only [Instr.length, (cbOf_encode _).1]
    rfl

/-! ### The cases of a system step -/

/-- A faulted machine does not move. -/
theorem State.systemStep_faulted {s : State} (h : s.ctl.fault ≠ none) : s.systemStep = .next s := by
  unfold State.systemStep
  rw [if_pos (Option.isSome_iff_ne_none.2 h)]

/-- An interrupt is due: the step takes it. -/
theorem State.systemStep_interrupt {s : State} (hf : s.ctl.fault = none) {i : IntSource}
    (hd : s.takeInput.interruptDue = some i) :
    s.systemStep = .next ((s.takeInput.dispatch i).runDevices 5) := by
  unfold State.systemStep
  simp only [hf, Option.isSome_none, Bool.false_eq_true, if_false, hd]

/-- The machine stays halted. -/
theorem State.systemStep_idle {s : State} (hf : s.ctl.fault = none) (hd : s.takeInput.interruptDue = none)
    (hi : s.takeInput.idles = true) : s.systemStep = .next (s.takeInput.applyEi.runDevices 1) := by
  unfold State.systemStep
  simp only [hf, Option.isSome_none, Bool.false_eq_true, if_false, hd, hi, if_true]

/-- Else the step fetches and runs one instruction. -/
theorem State.systemStep_runs {s : State} (hf : s.ctl.fault = none) (hd : s.takeInput.interruptDue = none)
    (hi : s.takeInput.idles = false) : s.systemStep = s.takeInput.wake.runInstr := by
  unfold State.systemStep
  simp only [hf, Option.isSome_none, Bool.false_eq_true, if_false, hd, hi]

end Sys2Proof.Machine
end

