-- ==== Sys2Proof/Tests/Slice0.lean ====
section
/-!
SUPPORT. The model's own tests. Expected values come from outside the model: the encodings of
spec/opcode_table.json written out bit by bit, and the vectors of spec/95_test_vectors.md, whose row each test
names. The witnesses show a concrete state and operands that meet all the hypotheses of an obligation together.
-/

namespace Sys2Proof.Tests.Slice0

set_option Elab.async false
set_option maxRecDepth 100000

open Sys2Proof Sys2Proof.Machine

/-! ### Well-formedness -/

/-- The one check refuses the prefix row's spelling of a CB instruction. -/
theorem test_prefix_spelling_refused : (Instr.prefixCb 0x37).wellFormed = false := by decide
theorem test_cb_row_accepted : Instr.swapA.wellFormed = true := by decide

/-! ### Decoding: every row of the opcode table, its word written out from the table's encoding -/

/-- Every word of the list decodes to its instruction, with nothing left over. -/
def decodes (rows : List (List Byte × Instr)) : Bool :=
  rows.all fun r =>
    match decode r.1 with
    | .ok (i, []) => decide (i = r.2)
    | .ok (_, _ :: _) => false
    | .error _ => false

/-- Missing bytes are rejected by name. -/
theorem test_decode_truncated :
    decode [] = .error .noByte ∧ decode [0xCB] = .error (.truncated 0xCB) ∧
      decode [0xC3, 0x00] = .error (.truncated 0xC3) := ⟨rfl, rfl, rfl⟩

/-- Row 0x of the plain map (R312). -/
theorem test_decode_0x :
    decodes [
      ([0b00000000], .nop), ([0b00000001, 0x34, 0x12], .ldBcN16 0x1234), ([0b00000010], .ldIndBcA),
      ([0b00000011], .incBc), ([0b00000100], .incB), ([0b00000101], .decB), ([0b00000110, 0xA7], .ldBN8 0xA7),
      ([0b00000111], .rlca), ([0b00001000, 0x34, 0x12], .ldIndA16Sp 0x1234), ([0b00001001], .addHlBc),
      ([0b00001010], .ldAIndBc), ([0b00001011], .decBc), ([0b00001100], .incC), ([0b00001101], .decC),
      ([0b00001110, 0xA7], .ldCN8 0xA7), ([0b00001111], .rrca)] = true := by decide

/-- Row 1x of the plain map (R312). -/
theorem test_decode_1x :
    decodes [
      ([0b00010000, 0xA7], .stop 0xA7), ([0b00010001, 0x34, 0x12], .ldDeN16 0x1234), ([0b00010010], .ldIndDeA),
      ([0b00010011], .incDe), ([0b00010100], .incD), ([0b00010101], .decD), ([0b00010110, 0xA7], .ldDN8 0xA7),
      ([0b00010111], .rla), ([0b00011000, 0xA7], .jrE8 0xA7), ([0b00011001], .addHlDe),
      ([0b00011010], .ldAIndDe), ([0b00011011], .decDe), ([0b00011100], .incE), ([0b00011101], .decE),
      ([0b00011110, 0xA7], .ldEN8 0xA7), ([0b00011111], .rra)] = true := by decide

/-- Row 2x of the plain map (R312). -/
theorem test_decode_2x :
    decodes [
      ([0b00100000, 0xA7], .jrNzE8 0xA7), ([0b00100001, 0x34, 0x12], .ldHlN16 0x1234),
      ([0b00100010], .ldIndHlIncA), ([0b00100011], .incHl), ([0b00100100], .incH), ([0b00100101], .decH),
      ([0b00100110, 0xA7], .ldHN8 0xA7), ([0b00100111], .daa), ([0b00101000, 0xA7], .jrZE8 0xA7),
      ([0b00101001], .addHlHl), ([0b00101010], .ldAIndHlInc), ([0b00101011], .decHl), ([0b00101100], .incL),
      ([0b00101101], .decL), ([0b00101110, 0xA7], .ldLN8 0xA7), ([0b00101111], .cpl)] = true := by decide

/-- Row 3x of the plain map (R312). -/
theorem test_decode_3x :
    decodes [
      ([0b00110000, 0xA7], .jrNcE8 0xA7), ([0b00110001, 0x34, 0x12], .ldSpN16 0x1234),
      ([0b00110010], .ldIndHlDecA), ([0b00110011], .incSp), ([0b00110100], .incIndHl),
      ([0b00110101], .decIndHl), ([0b00110110, 0xA7], .ldIndHlN8 0xA7), ([0b00110111], .scf),
      ([0b00111000, 0xA7], .jrCE8 0xA7), ([0b00111001], .addHlSp), ([0b00111010], .ldAIndHlDec),
      ([0b00111011], .decSp), ([0b00111100], .incA), ([0b00111101], .decA), ([0b00111110, 0xA7], .ldAN8 0xA7),
      ([0b00111111], .ccf)] = true := by decide

/-- Row 4x of the plain map (R312). -/
theorem test_decode_4x :
    decodes [
      ([0b01000000], .ldBB), ([0b01000001], .ldBC), ([0b01000010], .ldBD), ([0b01000011], .ldBE),
      ([0b01000100], .ldBH), ([0b01000101], .ldBL), ([0b01000110], .ldBIndHl), ([0b01000111], .ldBA),
      ([0b01001000], .ldCB), ([0b01001001], .ldCC), ([0b01001010], .ldCD), ([0b01001011], .ldCE),
      ([0b01001100], .ldCH), ([0b01001101], .ldCL), ([0b01001110], .ldCIndHl), ([0b01001111], .ldCA)] = true := by decide

/-- Row 5x of the plain map (R312). -/
theorem test_decode_5x :
    decodes [
      ([0b01010000], .ldDB), ([0b01010001], .ldDC), ([0b01010010], .ldDD), ([0b01010011], .ldDE),
      ([0b01010100], .ldDH), ([0b01010101], .ldDL), ([0b01010110], .ldDIndHl), ([0b01010111], .ldDA),
      ([0b01011000], .ldEB), ([0b01011001], .ldEC), ([0b01011010], .ldED), ([0b01011011], .ldEE),
      ([0b01011100], .ldEH), ([0b01011101], .ldEL), ([0b01011110], .ldEIndHl), ([0b01011111], .ldEA)] = true := by decide

/-- Row 6x of the plain map (R312). -/
theorem test_decode_6x :
    decodes [
      ([0b01100000], .ldHB), ([0b01100001], .ldHC), ([0b01100010], .ldHD), ([0b01100011], .ldHE),
      ([0b01100100], .ldHH), ([0b01100101], .ldHL), ([0b01100110], .ldHIndHl), ([0b01100111], .ldHA),
      ([0b01101000], .ldLB), ([0b01101001], .ldLC), ([0b01101010], .ldLD), ([0b01101011], .ldLE),
      ([0b01101100], .ldLH), ([0b01101101], .ldLL), ([0b01101110], .ldLIndHl), ([0b01101111], .ldLA)] = true := by decide

/-- Row 7x of the plain map (R312). -/
theorem test_decode_7x :
    decodes [
      ([0b01110000], .ldIndHlB), ([0b01110001], .ldIndHlC), ([0b01110010], .ldIndHlD),
      ([0b01110011], .ldIndHlE), ([0b01110100], .ldIndHlH), ([0b01110101], .ldIndHlL), ([0b01110110], .halt),
      ([0b01110111], .ldIndHlA), ([0b01111000], .ldAB), ([0b01111001], .ldAC), ([0b01111010], .ldAD),
      ([0b01111011], .ldAE), ([0b01111100], .ldAH), ([0b01111101], .ldAL), ([0b01111110], .ldAIndHl),
      ([0b01111111], .ldAA)] = true := by decide

/-- Row 8x of the plain map (R312). -/
theorem test_decode_8x :
    decodes [
      ([0b10000000], .addAB), ([0b10000001], .addAC), ([0b10000010], .addAD), ([0b10000011], .addAE),
      ([0b10000100], .addAH), ([0b10000101], .addAL), ([0b10000110], .addAIndHl), ([0b10000111], .addAA),
      ([0b10001000], .adcAB), ([0b10001001], .adcAC), ([0b10001010], .adcAD), ([0b10001011], .adcAE),
      ([0b10001100], .adcAH), ([0b10001101], .adcAL), ([0b10001110], .adcAIndHl), ([0b10001111], .adcAA)] = true := by decide

/-- Row 9x of the plain map (R312). -/
theorem test_decode_9x :
    decodes [
      ([0b10010000], .subAB), ([0b10010001], .subAC), ([0b10010010], .subAD), ([0b10010011], .subAE),
      ([0b10010100], .subAH), ([0b10010101], .subAL), ([0b10010110], .subAIndHl), ([0b10010111], .subAA),
      ([0b10011000], .sbcAB), ([0b10011001], .sbcAC), ([0b10011010], .sbcAD), ([0b10011011], .sbcAE),
      ([0b10011100], .sbcAH), ([0b10011101], .sbcAL), ([0b10011110], .sbcAIndHl), ([0b10011111], .sbcAA)] = true := by decide

/-- Row Ax of the plain map (R312). -/
theorem test_decode_Ax :
    decodes [
      ([0b10100000], .andAB), ([0b10100001], .andAC), ([0b10100010], .andAD), ([0b10100011], .andAE),
      ([0b10100100], .andAH), ([0b10100101], .andAL), ([0b10100110], .andAIndHl), ([0b10100111], .andAA),
      ([0b10101000], .xorAB), ([0b10101001], .xorAC), ([0b10101010], .xorAD), ([0b10101011], .xorAE),
      ([0b10101100], .xorAH), ([0b10101101], .xorAL), ([0b10101110], .xorAIndHl), ([0b10101111], .xorAA)] = true := by decide

/-- Row Bx of the plain map (R312). -/
theorem test_decode_Bx :
    decodes [
      ([0b10110000], .orAB), ([0b10110001], .orAC), ([0b10110010], .orAD), ([0b10110011], .orAE),
      ([0b10110100], .orAH), ([0b10110101], .orAL), ([0b10110110], .orAIndHl), ([0b10110111], .orAA),
      ([0b10111000], .cpAB), ([0b10111001], .cpAC), ([0b10111010], .cpAD), ([0b10111011], .cpAE),
      ([0b10111100], .cpAH), ([0b10111101], .cpAL), ([0b10111110], .cpAIndHl), ([0b10111111], .cpAA)] = true := by decide

/-- Row Cx of the plain map (R312). -/
theorem test_decode_Cx :
    decodes [
      ([0b11000000], .retNz), ([0b11000001], .popBc), ([0b11000010, 0x34, 0x12], .jpNzA16 0x1234),
      ([0b11000011, 0x34, 0x12], .jpA16 0x1234), ([0b11000100, 0x34, 0x12], .callNzA16 0x1234),
      ([0b11000101], .pushBc), ([0b11000110, 0xA7], .addAN8 0xA7), ([0b11000111], .rst00),
      ([0b11001000], .retZ), ([0b11001001], .ret), ([0b11001010, 0x34, 0x12], .jpZA16 0x1234),
      ([0b11001011, 0xA7], .res4A), ([0b11001100, 0x34, 0x12], .callZA16 0x1234),
      ([0b11001101, 0x34, 0x12], .callA16 0x1234), ([0b11001110, 0xA7], .adcAN8 0xA7), ([0b11001111], .rst08)] = true := by decide

/-- Row Dx of the plain map (R312). -/
theorem test_decode_Dx :
    decodes [
      ([0b11010000], .retNc), ([0b11010001], .popDe), ([0b11010010, 0x34, 0x12], .jpNcA16 0x1234),
      ([0b11010011], .illegalD3), ([0b11010100, 0x34, 0x12], .callNcA16 0x1234), ([0b11010101], .pushDe),
      ([0b11010110, 0xA7], .subAN8 0xA7), ([0b11010111], .rst10), ([0b11011000], .retC), ([0b11011001], .reti),
      ([0b11011010, 0x34, 0x12], .jpCA16 0x1234), ([0b11011011], .illegalDB),
      ([0b11011100, 0x34, 0x12], .callCA16 0x1234), ([0b11011101], .illegalDD),
      ([0b11011110, 0xA7], .sbcAN8 0xA7), ([0b11011111], .rst18)] = true := by decide

/-- Row Ex of the plain map (R312). -/
theorem test_decode_Ex :
    decodes [
      ([0b11100000, 0xA7], .ldhIndA8A 0xA7), ([0b11100001], .popHl), ([0b11100010], .ldhIndCA),
      ([0b11100011], .illegalE3), ([0b11100100], .illegalE4), ([0b11100101], .pushHl),
      ([0b11100110, 0xA7], .andAN8 0xA7), ([0b11100111], .rst20), ([0b11101000, 0xA7], .addSpE8 0xA7),
      ([0b11101001], .jpHl), ([0b11101010, 0x34, 0x12], .ldIndA16A 0x1234), ([0b11101011], .illegalEB),
      ([0b11101100], .illegalEC), ([0b11101101], .illegalED), ([0b11101110, 0xA7], .xorAN8 0xA7),
      ([0b11101111], .rst28)] = true := by decide

/-- Row Fx of the plain map (R312). -/
theorem test_decode_Fx :
    decodes [
      ([0b11110000, 0xA7], .ldhAIndA8 0xA7), ([0b11110001], .popAf), ([0b11110010], .ldhAIndC),
      ([0b11110011], .di), ([0b11110100], .illegalF4), ([0b11110101], .pushAf),
      ([0b11110110, 0xA7], .orAN8 0xA7), ([0b11110111], .rst30), ([0b11111000, 0xA7], .ldHlSpE8 0xA7),
      ([0b11111001], .ldSpHl), ([0b11111010, 0x34, 0x12], .ldAIndA16 0x1234), ([0b11111011], .ei),
      ([0b11111100], .illegalFC), ([0b11111101], .illegalFD), ([0b11111110, 0xA7], .cpAN8 0xA7),
      ([0b11111111], .rst38)] = true := by decide

/-- Row 0x of the CB map (R313). -/
theorem test_decode_CB_0x :
    decodes [
      ([0b11001011, 0b00000000], .rlcB), ([0b11001011, 0b00000001], .rlcC), ([0b11001011, 0b00000010], .rlcD),
      ([0b11001011, 0b00000011], .rlcE), ([0b11001011, 0b00000100], .rlcH), ([0b11001011, 0b00000101], .rlcL),
      ([0b11001011, 0b00000110], .rlcIndHl), ([0b11001011, 0b00000111], .rlcA),
      ([0b11001011, 0b00001000], .rrcB), ([0b11001011, 0b00001001], .rrcC), ([0b11001011, 0b00001010], .rrcD),
      ([0b11001011, 0b00001011], .rrcE), ([0b11001011, 0b00001100], .rrcH), ([0b11001011, 0b00001101], .rrcL),
      ([0b11001011, 0b00001110], .rrcIndHl), ([0b11001011, 0b00001111], .rrcA)] = true := by decide

/-- Row 1x of the CB map (R313). -/
theorem test_decode_CB_1x :
    decodes [
      ([0b11001011, 0b00010000], .rlB), ([0b11001011, 0b00010001], .rlC), ([0b11001011, 0b00010010], .rlD),
      ([0b11001011, 0b00010011], .rlE), ([0b11001011, 0b00010100], .rlH), ([0b11001011, 0b00010101], .rlL),
      ([0b11001011, 0b00010110], .rlIndHl), ([0b11001011, 0b00010111], .rlA), ([0b11001011, 0b00011000], .rrB),
      ([0b11001011, 0b00011001], .rrC), ([0b11001011, 0b00011010], .rrD), ([0b11001011, 0b00011011], .rrE),
      ([0b11001011, 0b00011100], .rrH), ([0b11001011, 0b00011101], .rrL), ([0b11001011, 0b00011110], .rrIndHl),
      ([0b11001011, 0b00011111], .rrA)] = true := by decide

/-- Row 2x of the CB map (R313). -/
theorem test_decode_CB_2x :
    decodes [
      ([0b11001011, 0b00100000], .slaB), ([0b11001011, 0b00100001], .slaC), ([0b11001011, 0b00100010], .slaD),
      ([0b11001011, 0b00100011], .slaE), ([0b11001011, 0b00100100], .slaH), ([0b11001011, 0b00100101], .slaL),
      ([0b11001011, 0b00100110], .slaIndHl), ([0b11001011, 0b00100111], .slaA),
      ([0b11001011, 0b00101000], .sraB), ([0b11001011, 0b00101001], .sraC), ([0b11001011, 0b00101010], .sraD),
      ([0b11001011, 0b00101011], .sraE), ([0b11001011, 0b00101100], .sraH), ([0b11001011, 0b00101101], .sraL),
      ([0b11001011, 0b00101110], .sraIndHl), ([0b11001011, 0b00101111], .sraA)] = true := by decide

/-- Row 3x of the CB map (R313). -/
theorem test_decode_CB_3x :
    decodes [
      ([0b11001011, 0b00110000], .swapB), ([0b11001011, 0b00110001], .swapC),
      ([0b11001011, 0b00110010], .swapD), ([0b11001011, 0b00110011], .swapE),
      ([0b11001011, 0b00110100], .swapH), ([0b11001011, 0b00110101], .swapL),
      ([0b11001011, 0b00110110], .swapIndHl), ([0b11001011, 0b00110111], .swapA),
      ([0b11001011, 0b00111000], .srlB), ([0b11001011, 0b00111001], .srlC), ([0b11001011, 0b00111010], .srlD),
      ([0b11001011, 0b00111011], .srlE), ([0b11001011, 0b00111100], .srlH), ([0b11001011, 0b00111101], .srlL),
      ([0b11001011, 0b00111110], .srlIndHl), ([0b11001011, 0b00111111], .srlA)] = true := by decide

/-- Row 4x of the CB map (R313). -/
theorem test_decode_CB_4x :
    decodes [
      ([0b11001011, 0b01000000], .bit0B), ([0b11001011, 0b01000001], .bit0C),
      ([0b11001011, 0b01000010], .bit0D), ([0b11001011, 0b01000011], .bit0E),
      ([0b11001011, 0b01000100], .bit0H), ([0b11001011, 0b01000101], .bit0L),
      ([0b11001011, 0b01000110], .bit0IndHl), ([0b11001011, 0b01000111], .bit0A),
      ([0b11001011, 0b01001000], .bit1B), ([0b11001011, 0b01001001], .bit1C),
      ([0b11001011, 0b01001010], .bit1D), ([0b11001011, 0b01001011], .bit1E),
      ([0b11001011, 0b01001100], .bit1H), ([0b11001011, 0b01001101], .bit1L),
      ([0b11001011, 0b01001110], .bit1IndHl), ([0b11001011, 0b01001111], .bit1A)] = true := by decide

/-- Row 5x of the CB map (R313). -/
theorem test_decode_CB_5x :
    decodes [
      ([0b11001011, 0b01010000], .bit2B), ([0b11001011, 0b01010001], .bit2C),
      ([0b11001011, 0b01010010], .bit2D), ([0b11001011, 0b01010011], .bit2E),
      ([0b11001011, 0b01010100], .bit2H), ([0b11001011, 0b01010101], .bit2L),
      ([0b11001011, 0b01010110], .bit2IndHl), ([0b11001011, 0b01010111], .bit2A),
      ([0b11001011, 0b01011000], .bit3B), ([0b11001011, 0b01011001], .bit3C),
      ([0b11001011, 0b01011010], .bit3D), ([0b11001011, 0b01011011], .bit3E),
      ([0b11001011, 0b01011100], .bit3H), ([0b11001011, 0b01011101], .bit3L),
      ([0b11001011, 0b01011110], .bit3IndHl), ([0b11001011, 0b01011111], .bit3A)] = true := by decide

/-- Row 6x of the CB map (R313). -/
theorem test_decode_CB_6x :
    decodes [
      ([0b11001011, 0b01100000], .bit4B), ([0b11001011, 0b01100001], .bit4C),
      ([0b11001011, 0b01100010], .bit4D), ([0b11001011, 0b01100011], .bit4E),
      ([0b11001011, 0b01100100], .bit4H), ([0b11001011, 0b01100101], .bit4L),
      ([0b11001011, 0b01100110], .bit4IndHl), ([0b11001011, 0b01100111], .bit4A),
      ([0b11001011, 0b01101000], .bit5B), ([0b11001011, 0b01101001], .bit5C),
      ([0b11001011, 0b01101010], .bit5D), ([0b11001011, 0b01101011], .bit5E),
      ([0b11001011, 0b01101100], .bit5H), ([0b11001011, 0b01101101], .bit5L),
      ([0b11001011, 0b01101110], .bit5IndHl), ([0b11001011, 0b01101111], .bit5A)] = true := by decide

/-- Row 7x of the CB map (R313). -/
theorem test_decode_CB_7x :
    decodes [
      ([0b11001011, 0b01110000], .bit6B), ([0b11001011, 0b01110001], .bit6C),
      ([0b11001011, 0b01110010], .bit6D), ([0b11001011, 0b01110011], .bit6E),
      ([0b11001011, 0b01110100], .bit6H), ([0b11001011, 0b01110101], .bit6L),
      ([0b11001011, 0b01110110], .bit6IndHl), ([0b11001011, 0b01110111], .bit6A),
      ([0b11001011, 0b01111000], .bit7B), ([0b11001011, 0b01111001], .bit7C),
      ([0b11001011, 0b01111010], .bit7D), ([0b11001011, 0b01111011], .bit7E),
      ([0b11001011, 0b01111100], .bit7H), ([0b11001011, 0b01111101], .bit7L),
      ([0b11001011, 0b01111110], .bit7IndHl), ([0b11001011, 0b01111111], .bit7A)] = true := by decide

/-- Row 8x of the CB map (R313). -/
theorem test_decode_CB_8x :
    decodes [
      ([0b11001011, 0b10000000], .res0B), ([0b11001011, 0b10000001], .res0C),
      ([0b11001011, 0b10000010], .res0D), ([0b11001011, 0b10000011], .res0E),
      ([0b11001011, 0b10000100], .res0H), ([0b11001011, 0b10000101], .res0L),
      ([0b11001011, 0b10000110], .res0IndHl), ([0b11001011, 0b10000111], .res0A),
      ([0b11001011, 0b10001000], .res1B), ([0b11001011, 0b10001001], .res1C),
      ([0b11001011, 0b10001010], .res1D), ([0b11001011, 0b10001011], .res1E),
      ([0b11001011, 0b10001100], .res1H), ([0b11001011, 0b10001101], .res1L),
      ([0b11001011, 0b10001110], .res1IndHl), ([0b11001011, 0b10001111], .res1A)] = true := by decide

/-- Row 9x of the CB map (R313). -/
theorem test_decode_CB_9x :
    decodes [
      ([0b11001011, 0b10010000], .res2B), ([0b11001011, 0b10010001], .res2C),
      ([0b11001011, 0b10010010], .res2D), ([0b11001011, 0b10010011], .res2E),
      ([0b11001011, 0b10010100], .res2H), ([0b11001011, 0b10010101], .res2L),
      ([0b11001011, 0b10010110], .res2IndHl), ([0b11001011, 0b10010111], .res2A),
      ([0b11001011, 0b10011000], .res3B), ([0b11001011, 0b10011001], .res3C),
      ([0b11001011, 0b10011010], .res3D), ([0b11001011, 0b10011011], .res3E),
      ([0b11001011, 0b10011100], .res3H), ([0b11001011, 0b10011101], .res3L),
      ([0b11001011, 0b10011110], .res3IndHl), ([0b11001011, 0b10011111], .res3A)] = true := by decide

/-- Row Ax of the CB map (R313). -/
theorem test_decode_CB_Ax :
    decodes [
      ([0b11001011, 0b10100000], .res4B), ([0b11001011, 0b10100001], .res4C),
      ([0b11001011, 0b10100010], .res4D), ([0b11001011, 0b10100011], .res4E),
      ([0b11001011, 0b10100100], .res4H), ([0b11001011, 0b10100101], .res4L),
      ([0b11001011, 0b10100110], .res4IndHl), ([0b11001011, 0b10100111], .res4A),
      ([0b11001011, 0b10101000], .res5B), ([0b11001011, 0b10101001], .res5C),
      ([0b11001011, 0b10101010], .res5D), ([0b11001011, 0b10101011], .res5E),
      ([0b11001011, 0b10101100], .res5H), ([0b11001011, 0b10101101], .res5L),
      ([0b11001011, 0b10101110], .res5IndHl), ([0b11001011, 0b10101111], .res5A)] = true := by decide

/-- Row Bx of the CB map (R313). -/
theorem test_decode_CB_Bx :
    decodes [
      ([0b11001011, 0b10110000], .res6B), ([0b11001011, 0b10110001], .res6C),
      ([0b11001011, 0b10110010], .res6D), ([0b11001011, 0b10110011], .res6E),
      ([0b11001011, 0b10110100], .res6H), ([0b11001011, 0b10110101], .res6L),
      ([0b11001011, 0b10110110], .res6IndHl), ([0b11001011, 0b10110111], .res6A),
      ([0b11001011, 0b10111000], .res7B), ([0b11001011, 0b10111001], .res7C),
      ([0b11001011, 0b10111010], .res7D), ([0b11001011, 0b10111011], .res7E),
      ([0b11001011, 0b10111100], .res7H), ([0b11001011, 0b10111101], .res7L),
      ([0b11001011, 0b10111110], .res7IndHl), ([0b11001011, 0b10111111], .res7A)] = true := by decide

/-- Row Cx of the CB map (R313). -/
theorem test_decode_CB_Cx :
    decodes [
      ([0b11001011, 0b11000000], .set0B), ([0b11001011, 0b11000001], .set0C),
      ([0b11001011, 0b11000010], .set0D), ([0b11001011, 0b11000011], .set0E),
      ([0b11001011, 0b11000100], .set0H), ([0b11001011, 0b11000101], .set0L),
      ([0b11001011, 0b11000110], .set0IndHl), ([0b11001011, 0b11000111], .set0A),
      ([0b11001011, 0b11001000], .set1B), ([0b11001011, 0b11001001], .set1C),
      ([0b11001011, 0b11001010], .set1D), ([0b11001011, 0b11001011], .set1E),
      ([0b11001011, 0b11001100], .set1H), ([0b11001011, 0b11001101], .set1L),
      ([0b11001011, 0b11001110], .set1IndHl), ([0b11001011, 0b11001111], .set1A)] = true := by decide

/-- Row Dx of the CB map (R313). -/
theorem test_decode_CB_Dx :
    decodes [
      ([0b11001011, 0b11010000], .set2B), ([0b11001011, 0b11010001], .set2C),
      ([0b11001011, 0b11010010], .set2D), ([0b11001011, 0b11010011], .set2E),
      ([0b11001011, 0b11010100], .set2H), ([0b11001011, 0b11010101], .set2L),
      ([0b11001011, 0b11010110], .set2IndHl), ([0b11001011, 0b11010111], .set2A),
      ([0b11001011, 0b11011000], .set3B), ([0b11001011, 0b11011001], .set3C),
      ([0b11001011, 0b11011010], .set3D), ([0b11001011, 0b11011011], .set3E),
      ([0b11001011, 0b11011100], .set3H), ([0b11001011, 0b11011101], .set3L),
      ([0b11001011, 0b11011110], .set3IndHl), ([0b11001011, 0b11011111], .set3A)] = true := by decide

/-- Row Ex of the CB map (R313). -/
theorem test_decode_CB_Ex :
    decodes [
      ([0b11001011, 0b11100000], .set4B), ([0b11001011, 0b11100001], .set4C),
      ([0b11001011, 0b11100010], .set4D), ([0b11001011, 0b11100011], .set4E),
      ([0b11001011, 0b11100100], .set4H), ([0b11001011, 0b11100101], .set4L),
      ([0b11001011, 0b11100110], .set4IndHl), ([0b11001011, 0b11100111], .set4A),
      ([0b11001011, 0b11101000], .set5B), ([0b11001011, 0b11101001], .set5C),
      ([0b11001011, 0b11101010], .set5D), ([0b11001011, 0b11101011], .set5E),
      ([0b11001011, 0b11101100], .set5H), ([0b11001011, 0b11101101], .set5L),
      ([0b11001011, 0b11101110], .set5IndHl), ([0b11001011, 0b11101111], .set5A)] = true := by decide

/-- Row Fx of the CB map (R313). -/
theorem test_decode_CB_Fx :
    decodes [
      ([0b11001011, 0b11110000], .set6B), ([0b11001011, 0b11110001], .set6C),
      ([0b11001011, 0b11110010], .set6D), ([0b11001011, 0b11110011], .set6E),
      ([0b11001011, 0b11110100], .set6H), ([0b11001011, 0b11110101], .set6L),
      ([0b11001011, 0b11110110], .set6IndHl), ([0b11001011, 0b11110111], .set6A),
      ([0b11001011, 0b11111000], .set7B), ([0b11001011, 0b11111001], .set7C),
      ([0b11001011, 0b11111010], .set7D), ([0b11001011, 0b11111011], .set7E),
      ([0b11001011, 0b11111100], .set7H), ([0b11001011, 0b11111101], .set7L),
      ([0b11001011, 0b11111110], .set7IndHl), ([0b11001011, 0b11111111], .set7A)] = true := by decide

/-! ### The host's two entry points -/

theorem test_decodeTableWord :
    decodeTableWord 24 0x123401 = some (.ldBcN16 0x1234) ∧ decodeTableWord 16 0xCB37 = some .swapA ∧
      decodeTableWord 8 0x06 = some (.ldBN8 0x00) := by decide

/-- Bytes at successive addresses. -/
def cellsAt (a : Nat) : List Byte → Memory
  | [] => []
  | v :: vs => (a, v) :: cellsAt (a + 1) vs

/-- The reset state with code at the entry point and these further bytes, as the vectors start. -/
def start (code : List Byte) (cells : Memory) : State :=
  { State.reset with mem := (cellsAt 0x0100 code ++ cells).filter fun c => c.1 < 0x8000 || c.2 != 0 }

/-- The state after a step. -/
def next (s : State) : State :=
  match step s with
  | .next t => t
  | .fault _ => s
  | .refused _ => s

theorem test_withFetchWord_runs : (next (State.reset.withFetchWord 16 0xCB37)).regs.a = 0x10 := by decide
theorem test_withFetchWord_halt : (next (State.reset.withFetchWord 8 0x76)).ctl.halted = true := by decide

/-! ### Single steps: rows of spec/95_test_vectors.md -/

/-- L1: register copy (R401); 1 machine cycle. -/
theorem test_L1_register_copy :
    let t := next { start [0x41] [] with regs := { Regs.reset with b := 0x11, c := 0x22 } }
    t.regs.a = 0x01 ∧ t.regs.f = 0xB0 ∧ t.regs.b = 0x22 ∧ t.regs.pc = 0x0101 ∧ t.timer.counter = 4 := by decide

/-- L2: load from (HL) (R402); 2 machine cycles. -/
theorem test_L2_load_from_hl :
    let t := next { start [0x7E] [(0xC000, 0x5A)] with regs := { Regs.reset with h := 0xC0, l := 0x00 } }
    t.regs.a = 0x5A ∧ t.regs.f = 0xB0 ∧ t.regs.pc = 0x0101 ∧ t.timer.counter = 8 := by decide

/-- L3: store to (HL) (R403); 2 machine cycles. -/
theorem test_L3_store_to_hl :
    let t := next { start [0x70] [] with regs := { Regs.reset with h := 0xC0, l := 0x01, b := 0x99 } }
    t.regs.a = 0x01 ∧ t.regs.f = 0xB0 ∧ t.regs.pc = 0x0101 ∧ t.memRead 0xC001 = 0x99 ∧ t.timer.counter = 8 := by decide

/-- L4: immediate (R404); 2 machine cycles. -/
theorem test_L4_immediate :
    let t := next (start [0x1E, 0x80] [])
    t.regs.a = 0x01 ∧ t.regs.f = 0xB0 ∧ t.regs.e = 0x80 ∧ t.regs.pc = 0x0102 ∧ t.timer.counter = 8 := by decide

/-- L6: A from (BC) (R406); 2 machine cycles. -/
theorem test_L6_a_from_bc :
    let t := next { start [0x0A] [(0xC003, 0x77)] with regs := { Regs.reset with b := 0xC0, c := 0x03 } }
    t.regs.a = 0x77 ∧ t.regs.f = 0xB0 ∧ t.regs.pc = 0x0101 ∧ t.timer.counter = 8 := by decide

/-- L8: (HL+) store; HL after the access (R412); 2 machine cycles. -/
theorem test_L8_hlinc_store_hl_after_the_access :
    let t := next { start [0x22] [] with regs := { Regs.reset with a := 0x01, h := 0xC0, l := 0xFF } }
    t.regs.a = 0x01 ∧ t.regs.f = 0xB0 ∧ t.regs.h = 0xC1 ∧ t.regs.l = 0x00 ∧ t.regs.pc = 0x0101 ∧
    t.memRead 0xC0FF = 0x01 ∧ t.timer.counter = 8 := by decide

/-- L9: (HL+) wraps: HL=FFFF writes IE, HL becomes 0000 (R412); 2 machine cycles. -/
theorem test_L9_hlinc_wraps_hl_ffff_writes_ie :
    let t := next { start [0x22] [] with regs := { Regs.reset with a := 0x1F, h := 0xFF, l := 0xFF } }
    t.regs.a = 0x1F ∧ t.regs.f = 0xB0 ∧ t.regs.h = 0x00 ∧ t.regs.l = 0x00 ∧ t.regs.pc = 0x0101 ∧
    t.intEnable = 0x1F ∧ t.timer.counter = 8 := by decide

/-- L10: (HL-) load wraps 0000 to FFFF (R411); 2 machine cycles. -/
theorem test_L10_hl_load_wraps_0000_to_ffff :
    let t := next { start [0x3A] [(0x0000, 0x00)] with regs := { Regs.reset with h := 0x00, l := 0x00 } }
    t.regs.a = 0x00 ∧ t.regs.f = 0xB0 ∧ t.regs.h = 0xFF ∧ t.regs.l = 0xFF ∧ t.regs.pc = 0x0101 ∧
    t.timer.counter = 8 := by decide

/-- L11: LDH store into HRAM (R417); 3 machine cycles. -/
theorem test_L11_ldh_store_into_hram :
    let t := next { start [0xE0, 0x80] [] with regs := { Regs.reset with a := 0xAB } }
    t.regs.a = 0xAB ∧ t.regs.f = 0xB0 ∧ t.regs.pc = 0x0102 ∧ t.memRead 0xFF80 = 0xAB ∧ t.timer.counter = 12 := by decide

/-- L12: LDH A,(C) reads IF: bits 7..5 read 1 (R418); 2 machine cycles. -/
theorem test_L12_ldh_a_c_reads_if_bits :
    let t := next { start [0xF2] [] with regs := { Regs.reset with c := 0x0F }, intFlag := 0x01 }
    t.regs.a = 0xE1 ∧ t.regs.f = 0xB0 ∧ t.regs.pc = 0x0101 ∧ t.timer.counter = 8 := by decide

/-- L15: read of absent external RAM gives FF (R414); 4 machine cycles. -/
theorem test_L15_read_of_absent_external_ram_gives :
    let t := next (start [0xFA, 0x00, 0xA0] [])
    t.regs.a = 0xFF ∧ t.regs.f = 0xB0 ∧ t.regs.pc = 0x0103 ∧ t.timer.counter = 16 := by decide

/-- L17: 16-bit immediate, 3 cycles (source §8) (R420); 3 machine cycles. -/
theorem test_L17_16_bit_immediate_3_cycles :
    let t := next (start [0x21, 0x34, 0x12] [])
    t.regs.a = 0x01 ∧ t.regs.f = 0xB0 ∧ t.regs.h = 0x12 ∧ t.regs.l = 0x34 ∧ t.regs.pc = 0x0103 ∧
    t.timer.counter = 12 := by decide

/-- L18: store SP little-endian (R421); 5 machine cycles. -/
theorem test_L18_store_sp_little_endian :
    let t := next { start [0x08, 0x00, 0xC1] [] with regs := { Regs.reset with sp := 0xFFF8 } }
    t.regs.a = 0x01 ∧ t.regs.f = 0xB0 ∧ t.regs.pc = 0x0103 ∧ t.memRead 0xC100 = 0xF8 ∧ t.memRead 0xC101 = 0xFF ∧
    t.timer.counter = 20 := by decide

/-- L20: SP + e8, negative offset (R423); 3 machine cycles. -/
theorem test_L20_sp_inc_e8_negative_offset :
    let t := next { start [0xF8, 0xFF] [] with regs := { Regs.reset with sp := 0x0005 } }
    t.regs.a = 0x01 ∧ t.regs.f = 0x30 ∧ t.regs.h = 0x00 ∧ t.regs.l = 0x04 ∧ t.regs.pc = 0x0102 ∧
    t.timer.counter = 12 := by decide

/-- L21: SP + e8, both carries (R423); 3 machine cycles. -/
theorem test_L21_sp_inc_e8_both_carries :
    let t := next { start [0xF8, 0x08] [] with regs := { Regs.reset with sp := 0xFFF8 } }
    t.regs.a = 0x01 ∧ t.regs.f = 0x30 ∧ t.regs.h = 0x00 ∧ t.regs.l = 0x00 ∧ t.regs.pc = 0x0102 ∧
    t.timer.counter = 12 := by decide

/-- A1: source §8 Add8(0x0C,0x0F) (R510); 1 machine cycle. -/
theorem test_A1_add8_0x0c_0x0f :
    let t := next { start [0x80] [] with regs := { Regs.reset with a := 0x0C, b := 0x0F } }
    t.regs.a = 0x1B ∧ t.regs.f = 0x20 ∧ t.regs.pc = 0x0101 ∧ t.timer.counter = 4 := by decide

/-- A3: ADC carry-in makes the half-carry (R513); 1 machine cycle. -/
theorem test_A3_adc_carry_in_makes_the_half :
    let t := next { start [0x88] [] with regs := { Regs.reset with a := 0x0F, b := 0x00, f := 0x10 } }
    t.regs.a = 0x10 ∧ t.regs.f = 0x20 ∧ t.regs.pc = 0x0101 ∧ t.timer.counter = 4 := by decide

/-- A4: ADC immediate wraps (R515); 2 machine cycles. -/
theorem test_A4_adc_immediate_wraps :
    let t := next { start [0xCE, 0xFF] [] with regs := { Regs.reset with a := 0x00, f := 0x10 } }
    t.regs.a = 0x00 ∧ t.regs.f = 0xB0 ∧ t.regs.pc = 0x0102 ∧ t.timer.counter = 8 := by decide

/-- A5: source §8 Sub8(0x32,0x64) (R516); 1 machine cycle. -/
theorem test_A5_sub8_0x32_0x64 :
    let t := next { start [0x90] [] with regs := { Regs.reset with a := 0x32, b := 0x64 } }
    t.regs.a = 0xCE ∧ t.regs.f = 0x70 ∧ t.regs.pc = 0x0101 ∧ t.timer.counter = 4 := by decide

/-- A7: SBC borrow-in underflows (R519); 1 machine cycle. -/
theorem test_A7_sbc_borrow_in_underflows :
    let t := next { start [0x98] [] with regs := { Regs.reset with a := 0x00, b := 0x00, f := 0x10 } }
    t.regs.a = 0xFF ∧ t.regs.f = 0x70 ∧ t.regs.pc = 0x0101 ∧ t.timer.counter = 4 := by decide

/-- A8: CP keeps A (R522); 1 machine cycle. -/
theorem test_A8_cp_keeps_a :
    let t := next { start [0xB8] [] with regs := { Regs.reset with a := 0x3C, b := 0x40 } }
    t.regs.a = 0x3C ∧ t.regs.f = 0x50 ∧ t.regs.pc = 0x0101 ∧ t.timer.counter = 4 := by decide

/-- A10: source §8 Increment8(0xFF); C unchanged (R525); 1 machine cycle. -/
theorem test_A10_increment8_0xff_c_unchanged :
    let t := next { start [0x3C] [] with regs := { Regs.reset with a := 0xFF, f := 0x10 } }
    t.regs.a = 0x00 ∧ t.regs.f = 0xB0 ∧ t.regs.pc = 0x0101 ∧ t.timer.counter = 4 := by decide

/-- A12: DEC to zero (R527); 1 machine cycle. -/
theorem test_A12_dec_to_zero :
    let t := next { start [0x0D] [] with regs := { Regs.reset with c := 0x01, f := 0x00 } }
    t.regs.a = 0x01 ∧ t.regs.f = 0xC0 ∧ t.regs.c = 0x00 ∧ t.regs.pc = 0x0101 ∧ t.timer.counter = 4 := by decide

/-- A14: INC (HL) (R526); 3 machine cycles. -/
theorem test_A14_inc_hl :
    let t := next { start [0x34] [(0xC006, 0x7F)] with regs := { Regs.reset with h := 0xC0, l := 0x06 } }
    t.regs.a = 0x01 ∧ t.regs.f = 0x30 ∧ t.regs.pc = 0x0101 ∧ t.memRead 0xC006 = 0x80 ∧ t.timer.counter = 12 := by decide

/-- A15: DEC (HL) (R528); 3 machine cycles. -/
theorem test_A15_dec_hl :
    let t := next { start [0x35] [(0xC007, 0x10)] with regs := { Regs.reset with h := 0xC0, l := 0x07 } }
    t.regs.a = 0x01 ∧ t.regs.f = 0x70 ∧ t.regs.pc = 0x0101 ∧ t.memRead 0xC007 = 0x0F ∧ t.timer.counter = 12 := by decide

/-- A16: ADD HL,BC half-carry from bit 11; Z kept (R531); 2 machine cycles. -/
theorem test_A16_add_hl_bc_half_carry_from :
    let t := next { start [0x09] [] with regs := { Regs.reset with h := 0x0F, l := 0xFF, b := 0x00, c := 0x01, f := 0x80 } }
    t.regs.a = 0x01 ∧ t.regs.f = 0xA0 ∧ t.regs.h = 0x10 ∧ t.regs.l = 0x00 ∧ t.regs.pc = 0x0101 ∧
    t.timer.counter = 8 := by decide

/-- A19: INC rr wraps; no flags (R529); 2 machine cycles. -/
theorem test_A19_inc_rr_wraps_no_flags :
    let t := next { start [0x03] [] with regs := { Regs.reset with b := 0xFF, c := 0xFF, f := 0x00 } }
    t.regs.a = 0x01 ∧ t.regs.f = 0x00 ∧ t.regs.b = 0x00 ∧ t.regs.c = 0x00 ∧ t.regs.pc = 0x0101 ∧
    t.timer.counter = 8 := by decide

/-- A21: ADD SP,e8 negative (R532); 4 machine cycles. -/
theorem test_A21_add_sp_e8_negative :
    let t := next { start [0xE8, 0xFE] [] with regs := { Regs.reset with sp := 0xD000, f := 0xF0 } }
    t.regs.a = 0x01 ∧ t.regs.f = 0x00 ∧ t.regs.sp = 0xCFFE ∧ t.regs.pc = 0x0102 ∧ t.timer.counter = 16 := by decide

/-- G1: AND sets H (R610); 1 machine cycle. -/
theorem test_G1_and_sets_h :
    let t := next { start [0xA0] [] with regs := { Regs.reset with a := 0xF0, b := 0x0F } }
    t.regs.a = 0x00 ∧ t.regs.f = 0xA0 ∧ t.regs.pc = 0x0101 ∧ t.timer.counter = 4 := by decide

/-- G2: XOR A clears A and sets Z only (R613); 1 machine cycle. -/
theorem test_G2_xor_a_clears_a_and_sets :
    let t := next { start [0xAF] [] with regs := { Regs.reset with a := 0x5A, f := 0x70 } }
    t.regs.a = 0x00 ∧ t.regs.f = 0x80 ∧ t.regs.pc = 0x0101 ∧ t.timer.counter = 4 := by decide

/-- G3: OR (R616); 1 machine cycle. -/
theorem test_G3_or :
    let t := next { start [0xB1] [] with regs := { Regs.reset with a := 0x50, c := 0x05, f := 0x30 } }
    t.regs.a = 0x55 ∧ t.regs.f = 0x00 ∧ t.regs.pc = 0x0101 ∧ t.timer.counter = 4 := by decide

/-- G5: CPL (R619); 1 machine cycle. -/
theorem test_G5_cpl :
    let t := next { start [0x2F] [] with regs := { Regs.reset with a := 0x35, f := 0x90 } }
    t.regs.a = 0xCA ∧ t.regs.f = 0xF0 ∧ t.regs.pc = 0x0101 ∧ t.timer.counter = 4 := by decide

/-- S1: RLCA clears Z (R710); 1 machine cycle. -/
theorem test_S1_rlca_clears_z :
    let t := next { start [0x07] [] with regs := { Regs.reset with a := 0x85, f := 0x80 } }
    t.regs.a = 0x0B ∧ t.regs.f = 0x10 ∧ t.regs.pc = 0x0101 ∧ t.timer.counter = 4 := by decide

/-- S3: RLA, source §8 Rotate(0b10110010, 1, LEFT) (R712); 1 machine cycle. -/
theorem test_S3_rla_rotate_0b10110010_1_left :
    let t := next { start [0x17] [] with regs := { Regs.reset with a := 0xB2, f := 0x10 } }
    t.regs.a = 0x65 ∧ t.regs.f = 0x10 ∧ t.regs.pc = 0x0101 ∧ t.timer.counter = 4 := by decide

/-- S7: RL (HL) (R719); 4 machine cycles. -/
theorem test_S7_rl_hl :
    let t := next { start [0xCB, 0x16] [(0xC008, 0x80)] with regs := { Regs.reset with h := 0xC0, l := 0x08, f := 0x00 } }
    t.regs.a = 0x01 ∧ t.regs.f = 0x90 ∧ t.regs.pc = 0x0102 ∧ t.memRead 0xC008 = 0x00 ∧ t.timer.counter = 16 := by decide

/-- S9: SRA keeps bit 7 (R724); 2 machine cycles. -/
theorem test_S9_sra_keeps_bit_7 :
    let t := next { start [0xCB, 0x28] [] with regs := { Regs.reset with b := 0x81 } }
    t.regs.a = 0x01 ∧ t.regs.f = 0x10 ∧ t.regs.b = 0xC0 ∧ t.regs.pc = 0x0102 ∧ t.timer.counter = 8 := by decide

/-- S10: SWAP clears C (R726); 2 machine cycles. -/
theorem test_S10_swap_clears_c :
    let t := next { start [0xCB, 0x37] [] with regs := { Regs.reset with a := 0xF0, f := 0x10 } }
    t.regs.a = 0x0F ∧ t.regs.f = 0x00 ∧ t.regs.pc = 0x0102 ∧ t.timer.counter = 8 := by decide

/-- S11: SRL to zero (R728); 2 machine cycles. -/
theorem test_S11_srl_to_zero :
    let t := next { start [0xCB, 0x3F] [] with regs := { Regs.reset with a := 0x01 } }
    t.regs.a = 0x00 ∧ t.regs.f = 0x90 ∧ t.regs.pc = 0x0102 ∧ t.timer.counter = 8 := by decide

/-- B1: BIT 7,H with bit set; C kept (R810); 2 machine cycles. -/
theorem test_B1_bit_7_h_with_bit_set :
    let t := next { start [0xCB, 0x7C] [] with regs := { Regs.reset with h := 0x80, f := 0x10 } }
    t.regs.a = 0x01 ∧ t.regs.f = 0x30 ∧ t.regs.pc = 0x0102 ∧ t.timer.counter = 8 := by decide

/-- B3: BIT 3,(HL) costs 3 (R811); 3 machine cycles. -/
theorem test_B3_bit_3_hl_costs_3 :
    let t := next { start [0xCB, 0x5E] [(0xC009, 0x08)] with regs := { Regs.reset with h := 0xC0, l := 0x09, f := 0x00 } }
    t.regs.a = 0x01 ∧ t.regs.f = 0x20 ∧ t.regs.pc = 0x0102 ∧ t.timer.counter = 12 := by decide

/-- B4: RES 3,(HL) (R813); 4 machine cycles. -/
theorem test_B4_res_3_hl :
    let t := next { start [0xCB, 0x9E] [(0xC00A, 0xFF)] with regs := { Regs.reset with h := 0xC0, l := 0x0A, f := 0xF0 } }
    t.regs.a = 0x01 ∧ t.regs.f = 0xF0 ∧ t.regs.pc = 0x0102 ∧ t.memRead 0xC00A = 0xF7 ∧ t.timer.counter = 16 := by decide

/-- B5: SET 7,A (R814); 2 machine cycles. -/
theorem test_B5_set_7_a :
    let t := next { start [0xCB, 0xFF] [] with regs := { Regs.reset with a := 0x00, f := 0x00 } }
    t.regs.a = 0x80 ∧ t.regs.f = 0x00 ∧ t.regs.pc = 0x0102 ∧ t.timer.counter = 8 := by decide

/-- C1: JP a16 (R910); 4 machine cycles. -/
theorem test_C1_jp_a16 :
    let t := next (start [0xC3, 0x00, 0x02] [])
    t.regs.a = 0x01 ∧ t.regs.f = 0xB0 ∧ t.regs.pc = 0x0200 ∧ t.timer.counter = 16 := by decide

/-- C3: JR -2 jumps to itself (R913); 3 machine cycles. -/
theorem test_C3_jr_2_jumps_to_itself :
    let t := next (start [0x18, 0xFE] [])
    t.regs.a = 0x01 ∧ t.regs.f = 0xB0 ∧ t.regs.pc = 0x0100 ∧ t.timer.counter = 12 := by decide

/-- C7: JR NZ not taken (R914); 2 machine cycles. -/
theorem test_C7_jr_nz_not_taken :
    let t := next { start [0x20, 0x05] [] with regs := { Regs.reset with f := 0x80 } }
    t.regs.a = 0x01 ∧ t.regs.f = 0x80 ∧ t.regs.pc = 0x0102 ∧ t.timer.counter = 8 := by decide

/-- C10: CALL pushes the return address (R915); 6 machine cycles. -/
theorem test_C10_call_pushes_the_return_address :
    let t := next { start [0xCD, 0x00, 0x20] [(0xCFFE, 0xEE), (0xCFFF, 0xEE)] with regs := { Regs.reset with sp := 0xD000 } }
    t.regs.a = 0x01 ∧ t.regs.f = 0xB0 ∧ t.regs.sp = 0xCFFE ∧ t.regs.pc = 0x2000 ∧ t.memRead 0xCFFE = 0x03 ∧
    t.memRead 0xCFFF = 0x01 ∧ t.timer.counter = 24 := by decide

/-- C11: CALL NC not taken (R916); 3 machine cycles. -/
theorem test_C11_call_nc_not_taken :
    let t := next { start [0xD4, 0x00, 0x20] [] with regs := { Regs.reset with f := 0x10, sp := 0xD000 } }
    t.regs.a = 0x01 ∧ t.regs.f = 0x10 ∧ t.regs.pc = 0x0103 ∧ t.timer.counter = 12 := by decide

/-- C12: RET (R917); 4 machine cycles. -/
theorem test_C12_ret :
    let t := next { start [0xC9] [(0xCFFE, 0x34), (0xCFFF, 0x12)] with regs := { Regs.reset with sp := 0xCFFE } }
    t.regs.a = 0x01 ∧ t.regs.f = 0xB0 ∧ t.regs.sp = 0xD000 ∧ t.regs.pc = 0x1234 ∧ t.timer.counter = 16 := by decide

/-- C13: RET Z taken (R918); 5 machine cycles. -/
theorem test_C13_ret_z_taken :
    let t := next { start [0xC8] [(0xCFFE, 0x34), (0xCFFF, 0x12)] with regs := { Regs.reset with f := 0x80, sp := 0xCFFE } }
    t.regs.a = 0x01 ∧ t.regs.f = 0x80 ∧ t.regs.sp = 0xD000 ∧ t.regs.pc = 0x1234 ∧ t.timer.counter = 20 := by decide

/-- C15: RETI sets IME at once (R919); 4 machine cycles. -/
theorem test_C15_reti_sets_ime_at_once :
    let t := next { start [0xD9] [(0xCFFE, 0x34), (0xCFFF, 0x12)] with regs := { Regs.reset with sp := 0xCFFE } }
    t.regs.a = 0x01 ∧ t.regs.f = 0xB0 ∧ t.regs.sp = 0xD000 ∧ t.regs.pc = 0x1234 ∧ t.ctl.ime = true ∧
    t.timer.counter = 16 := by decide

/-- C16: RST 38 (R920); 4 machine cycles. -/
theorem test_C16_rst_38 :
    let t := next { start [0xFF] [(0xCFFE, 0xEE), (0xCFFF, 0xEE)] with regs := { Regs.reset with sp := 0xD000 } }
    t.regs.a = 0x01 ∧ t.regs.f = 0xB0 ∧ t.regs.sp = 0xCFFE ∧ t.regs.pc = 0x0038 ∧ t.memRead 0xCFFE = 0x01 ∧
    t.memRead 0xCFFF = 0x01 ∧ t.timer.counter = 16 := by decide

/-- K1: PUSH BC (R1010); 4 machine cycles. -/
theorem test_K1_push_bc :
    let t := next { start [0xC5] [(0xCFFE, 0xEE), (0xCFFF, 0xEE)] with regs := { Regs.reset with b := 0x12, c := 0x34, sp := 0xD000 } }
    t.regs.a = 0x01 ∧ t.regs.f = 0xB0 ∧ t.regs.sp = 0xCFFE ∧ t.regs.pc = 0x0101 ∧ t.memRead 0xCFFE = 0x34 ∧
    t.memRead 0xCFFF = 0x12 ∧ t.timer.counter = 16 := by decide

/-- K2: POP DE (R1012); 3 machine cycles. -/
theorem test_K2_pop_de :
    let t := next { start [0xD1] [(0xCFFE, 0xCD), (0xCFFF, 0xAB)] with regs := { Regs.reset with sp := 0xCFFE } }
    t.regs.a = 0x01 ∧ t.regs.f = 0xB0 ∧ t.regs.d = 0xAB ∧ t.regs.e = 0xCD ∧ t.regs.sp = 0xD000 ∧
    t.regs.pc = 0x0101 ∧ t.timer.counter = 12 := by decide

/-- K3: POP AF clears F[3:0] (R1013); 3 machine cycles. -/
theorem test_K3_pop_af_clears_f_3_0 :
    let t := next { start [0xF1] [(0xCFFE, 0xFF), (0xCFFF, 0x12)] with regs := { Regs.reset with sp := 0xCFFE } }
    t.regs.a = 0x12 ∧ t.regs.f = 0xF0 ∧ t.regs.sp = 0xD000 ∧ t.regs.pc = 0x0101 ∧ t.timer.counter = 12 := by decide

/-- K5: POP wraps SP from FFFE to 0000 (R1012); 3 machine cycles. -/
theorem test_K5_pop_wraps_sp_from_fffe_to :
    let t := next { start [0xC1] [(0xFFFE, 0x11)] with regs := { Regs.reset with sp := 0xFFFE }, intEnable := 0x22 }
    t.regs.a = 0x01 ∧ t.regs.f = 0xB0 ∧ t.regs.b = 0x22 ∧ t.regs.c = 0x11 ∧ t.regs.sp = 0x0000 ∧
    t.regs.pc = 0x0101 ∧ t.timer.counter = 12 := by decide

/-- M1: NOP (R1110); 1 machine cycle. -/
theorem test_M1_nop :
    let t := next (start [0x00] [])
    t.regs.a = 0x01 ∧ t.regs.f = 0xB0 ∧ t.regs.pc = 0x0101 ∧ t.timer.counter = 4 := by decide

/-- M3: CCF (R1116); 1 machine cycle. -/
theorem test_M3_ccf :
    let t := next { start [0x3F] [] with regs := { Regs.reset with f := 0x70 } }
    t.regs.a = 0x01 ∧ t.regs.f = 0x00 ∧ t.regs.pc = 0x0101 ∧ t.timer.counter = 4 := by decide

/-- M4: DI cancels a pending EI countdown (R1113); 1 machine cycle. -/
theorem test_M4_di_cancels_a_pending_ei_countdown :
    let t := next { start [0xF3] [] with ctl := { Control.reset with imeDelay := 1, ime := false } }
    t.regs.a = 0x01 ∧ t.regs.f = 0xB0 ∧ t.regs.pc = 0x0101 ∧ t.ctl.imeDelay = 0 ∧ t.timer.counter = 4 := by decide

/-- M5: EI: the countdown after the EI step (R1114); 1 machine cycle. -/
theorem test_M5_ei_the_countdown_after_the_ei :
    let t := next (start [0xFB] [])
    t.regs.a = 0x01 ∧ t.regs.f = 0xB0 ∧ t.regs.pc = 0x0101 ∧ t.ctl.imeDelay = 1 ∧ t.timer.counter = 4 := by decide

/-- M6: illegal opcode faults (R1118); 0 machine cycles. -/
theorem test_M6_illegal_opcode_faults :
    let t := next (start [0xD3] [])
    t.regs.a = 0x01 ∧ t.regs.f = 0xB0 ∧ t.regs.pc = 0x0101 ∧ t.ctl.fault = some ⟨0xD3, 0x0100⟩ ∧
    t.timer.counter = 0 := by decide

/-- M7: STOP (AsHalt) skips its second byte (R1112); 1 machine cycle. -/
theorem test_M7_stop_ashalt_skips_its_second_byte :
    let t := next (start [0x10, 0x00] [])
    t.regs.a = 0x01 ∧ t.regs.f = 0xB0 ∧ t.regs.pc = 0x0102 ∧ t.ctl.halted = true ∧ t.timer.counter = 4 := by decide

/-- M10: CB CB is SET 1,E (R1117); 2 machine cycles. -/
theorem test_M10_cb_cb_is_set_1_e :
    let t := next { start [0xCB, 0xCB] [] with regs := { Regs.reset with e := 0x00 } }
    t.regs.a = 0x01 ∧ t.regs.f = 0xB0 ∧ t.regs.e = 0x02 ∧ t.regs.pc = 0x0102 ∧ t.timer.counter = 8 := by decide

/-- I1: dispatch of the lowest pending bit (R1204); 5 machine cycles. -/
theorem test_I1_dispatch_of_the_lowest_pending_bit :
    let t := next { start [0x00] [(0xCFFE, 0xEE), (0xCFFF, 0xEE)] with regs := { Regs.reset with sp := 0xD000 }, ctl := { Control.reset with ime := true }, intEnable := 0x1F, intFlag := 0x05 }
    t.regs.a = 0x01 ∧ t.regs.f = 0xB0 ∧ t.regs.sp = 0xCFFE ∧ t.regs.pc = 0x0040 ∧ t.ctl.ime = false ∧
    t.intFlag = 0x04 ∧ t.memRead 0xCFFE = 0x00 ∧ t.memRead 0xCFFF = 0x01 ∧ t.timer.counter = 20 := by decide

/-- I3: dispatch from the halted state (R1204); 5 machine cycles. -/
theorem test_I3_dispatch_from_the_halted_state :
    let t := next { start [0x76] [(0xCFFE, 0xEE), (0xCFFF, 0xEE)] with regs := { Regs.reset with sp := 0xD000 }, ctl := { Control.reset with ime := true, halted := true }, intEnable := 0x04, intFlag := 0x04 }
    t.regs.a = 0x01 ∧ t.regs.f = 0xB0 ∧ t.regs.sp = 0xCFFE ∧ t.regs.pc = 0x0050 ∧ t.ctl.ime = false ∧
    t.ctl.halted = false ∧ t.intFlag = 0x00 ∧ t.memRead 0xCFFE = 0x00 ∧ t.memRead 0xCFFF = 0x01 ∧
    t.timer.counter = 20 := by decide

/-- I5: dispatch with SP=0001 pushes into IE (R1205); 5 machine cycles. -/
theorem test_I5_dispatch_pushes_into_ie :
    let t := next { start [0x00] [] with
      regs := { Regs.reset with sp := 0x0001 }, ctl := { Control.reset with ime := true }, intEnable := 0x01,
      intFlag := 0x01 }
    t.regs.sp = 0xFFFF ∧ t.regs.pc = 0x0040 ∧ t.ctl.ime = false ∧ t.intFlag = 0x00 ∧ t.intEnable = 0x00 ∧
    t.timer.counter = 20 := by decide

/-- T3: writing DIV makes a falling edge (R1461). -/
theorem test_T3_div_write_edge :
    let t := next { start [0xE0, 0x04] [] with timer := ⟨0x0008, 0x10, 0x00, 0x05⟩ }
    t.timer.tima = 0x11 ∧ t.timer.counter = 0x000C := by decide

/-- T5, its second step: writing TAC makes a falling edge (R1461). -/
theorem test_T5_tac_write_edge :
    let t := next { start [0xE0, 0x07] [] with
      regs := { Regs.reset with a := 0x00 }, timer := ⟨0x0200, 0x05, 0x00, 0x04⟩ }
    t.timer.tima = 0x06 ∧ t.timer.tac = 0x00 := by decide

/-- T1, its fourth step: overflow, reload and request (R1461). -/
theorem test_T1_overflow_reloads :
    let t := next { start [0x00] [] with timer := ⟨0x000C, 0xFF, 0xAB, 0x05⟩ }
    t.timer.tima = 0xAB ∧ t.timer.counter = 0x0010 ∧ t.intFlag = 0x04 := by decide

/-- J2, its select write: Right pressed, directions selected (R1462). -/
theorem test_J2_select_requests :
    let t := next { start [0xE0, 0x00] [] with
      regs := { Regs.reset with a := 0x20 }, joypad := { Joypad.reset with pressed := { Buttons.none with right := true } } }
    t.memRead 0xFF00 = 0xEE ∧ t.intFlag = 0x10 := by decide

/-- J1: P1 at reset (R1462). -/
theorem test_J1_nothing_pressed : State.reset.memRead 0xFF00 = 0xFF := by decide

/-- R1, its write of SC: after the step SC reads FF and 1021 cycles are left (R1463). -/
theorem test_R1_transfer_starts :
    let t := next { start [0xE0, 0x02] [] with regs := { Regs.reset with a := 0x81 } }
    t.memRead 0xFF02 = 0xFF ∧ t.serial.left = 1021 := by decide

/-- D1, its write of 0xFF46: three bytes copied in the step's own 12 dots (R1401, R1402). -/
theorem test_D1_dma_starts :
    let t := next { start [0xE0, 0x46] [(0xC101, 0x01), (0xC102, 0x02)] with regs := { Regs.reset with a := 0xC1 } }
    t.dma.index = 3 ∧ t.mem.read 0xFE00 = 0x00 ∧ t.mem.read 0xFE01 = 0x01 ∧ t.mem.read 0xFE02 = 0x02 := by decide

/-- V1: STAT at reset (R1302, R1310). -/
theorem test_V1_stat_at_reset : (next (start [0xF0, 0x41] [])).regs.a = 0x86 := by decide

/-- V13: the dot 0 of line 0 locks OAM (R213, R1320). -/
theorem test_V13_oam_locked : (next (start [0x00] [(0xFE00, 0x77)])).memRead 0xFE00 = 0xFF := by decide

/-- V3, its last dot: dot 79 ends the scan, in mode 3 (R1322). -/
theorem test_V3_dot_79_begins_mode_3 :
    (State.ppuDot { State.reset with
      ppu := { Ppu.reset with scanDone := true, oamLock := true, lineDot := 79 } }).lcd.stat = 0x87 := by decide

/-- R1111 with `HaltBug`: the byte after HALT is read twice, so `3C` is INC A and runs again. -/
theorem test_halt_bug_refetch :
    let t := next { start [0x76, 0x3C] [] with
      params := { Params.defaults with haltBug := true }, intEnable := 0x01, intFlag := 0x01 }
    t.ctl.haltSkip = true ∧ t.ctl.halted = false ∧
      (next { t with mem := [(0x0101, 0x3C)] }).regs.pc = 0x0101 := by decide

/-- R1112 with `StopBehaviour = Fault`. -/
theorem test_stop_faults :
    (next { start [0x10, 0x00] [] with
      params := { Params.defaults with stopBehaviour := .fault } }).ctl.fault = some ⟨0x10, 0x0100⟩ := by decide

/-- R202: a launch's image is in ROM, 0xFF past its end. -/
theorem test_image_in_rom :
    let s := ({ Launch.defaults with image := [0x00, 0xC3] } : Launch).reset
    s.mem.read 0x0000 = 0x00 ∧ s.mem.read 0x0001 = 0xC3 ∧ s.mem.read 0x0002 = 0xFF ∧ s.mem.wf := by decide

/-- R1472, R1521: a clean launch may have host inputs to come; its first step boundary presses the buttons. -/
theorem test_launch_presses :
    let pressed : Buttons := { Buttons.none with start := true }
    let s := ({ Launch.defaults with hostInputs := [pressed] } : Launch).reset
    s.joypad.pressed = Buttons.none ∧ s.takeInput.joypad.pressed = pressed := by decide

/-! ### Witnesses -/

theorem witness_ResetTable :
    ∃ l : Launch, l.regs = Regs.reset ∧ (0 : Nat) < 0x8000 ∧ (0x7FFF : Nat) < 0x8000 :=
  ⟨{ Launch.defaults with image := [0x00], obp0 := 0xE4, hostInputs := [Buttons.none], draws := 3 }, rfl, by decide, by decide⟩

/-- A state with the invariant that is not the reset state. -/
def running : State := { start [0x3C] [(0xC000, 0x5A)] with regs := { Regs.reset with a := 0x7F, f := 0x50 } }

theorem witness_StepKeepsInvariant : ∃ s t : State, s.Inv ∧ step s = .next t := by
  refine ⟨running, next running, ⟨by decide, by decide, by decide, by decide, by decide, by decide, by decide,
    by decide, by decide, ?_⟩, rfl⟩
  exact ⟨by decide, by decide, by decide, by decide, by decide, by decide, by decide, by decide, by decide,
    by decide, by decide, by decide⟩

theorem witness_StepTotal : ∃ (s : State) (f : IllegalOpcode), s.ctl.fault = some f :=
  ⟨{ State.reset with ctl := { Control.reset with fault := some ⟨0xD3, 0x0100⟩ } }, _, rfl⟩

theorem witness_DecodeEncode : ∃ i : Instr, i.wellFormed = true := ⟨.set7A, rfl⟩

theorem witness_EncodeDecode : ∃ (bytes rest : List Byte) (i : Instr), decode bytes = .ok (i, rest) :=
  ⟨[0xCB, 0xFF, 0x01], [0x01], .set7A, rfl⟩

theorem witness_DecodeBlocks12 :
    (∃ (y z : BitVec 3) (dst r : Reg8), r8 y = .reg dst ∧ r8 z = .reg r) ∧
    (∃ (y z : BitVec 3) (dst : Reg8), r8 y = .reg dst ∧ r8 z = .indHl) ∧
    (∃ (y z : BitVec 3) (r : Reg8), r8 y = .indHl ∧ r8 z = .reg r) ∧
    (∃ y z : BitVec 3, r8 y = .indHl ∧ r8 z = .indHl) ∧
    (∃ (y : BitVec 3) (op : AluOp), [AluOp.add, .adc, .sub, .sbc, .and, .xor, .or, .cp][y.toNat]? = some op) :=
  ⟨⟨7, 0, .a, .b, rfl, rfl⟩, ⟨0, 6, .b, rfl, rfl⟩, ⟨6, 7, .a, rfl, rfl⟩, ⟨6, 6, rfl, rfl⟩, ⟨7, .cp, rfl⟩⟩

/-- The hypotheses of StepRunsDecoded and StepHaltBug up to the bytes. -/
def fetches (s : State) (skip : Bool) : Prop :=
  s.ctl.fault = none ∧ s.takeInput.interruptDue = none ∧ s.takeInput.idles = false ∧
    s.takeInput.ctl.haltSkip = skip

/-- The state in which StepRunsDecoded executes i. -/
def fetchedBy (s : State) (i : Instr) : State :=
  { s.takeInput.afterReads s.takeInput.regs.pc i.length with
    regs := { s.takeInput.regs with pc := s.takeInput.regs.pc + BitVec.ofNat 16 i.length }
    ctl := { s.takeInput.ctl with halted := false, opcodeAddr := s.takeInput.regs.pc } }

/-- The three bytes StepRunsDecoded decodes. -/
def bytesAt (s : State) : List Byte :=
  [s.memRead s.regs.pc, (s.afterReads s.regs.pc 1).memRead (s.regs.pc + 1),
    (s.afterReads s.regs.pc 2).memRead (s.regs.pc + 2)]

/-- INC A runs; an undefined opcode faults. -/
theorem witness_StepRunsDecoded :
    (∃ s t : State, fetches s false ∧ decode (bytesAt s.takeInput) = .ok (.incA, [0xFF, 0xFF]) ∧
      exec .incA (fetchedBy s .incA) = .next t ∧ t.ctl.fault = none) ∧
    (∃ s t : State, fetches s false ∧ decode (bytesAt s.takeInput) = .ok (.illegalD3, [0xFF, 0xFF]) ∧
      exec .illegalD3 (fetchedBy s .illegalD3) = .next t ∧ t.ctl.fault ≠ none) := by
  refine ⟨⟨start [0x3C] [], _, ⟨?_, ?_, ?_, ?_⟩, ?_, rfl, ?_⟩, ⟨start [0xD3] [], _, ⟨?_, ?_, ?_, ?_⟩, ?_, rfl, ?_⟩⟩ <;>
    first | rfl | decide

/-- The state in which StepHaltBug executes i. -/
def refetchedBy (s : State) (i : Instr) : State :=
  { (s.takeInput.afterRead s.takeInput.regs.pc).afterReads s.takeInput.regs.pc (i.length - 1) with
    regs := { s.takeInput.regs with pc := s.takeInput.regs.pc + BitVec.ofNat 16 i.length - 1 }
    ctl := { s.takeInput.ctl with halted := false, haltSkip := false, opcodeAddr := s.takeInput.regs.pc } }

/-- The three bytes StepHaltBug decodes. -/
def bytesTwice (s : State) : List Byte :=
  [s.memRead s.regs.pc, (s.afterRead s.regs.pc).memRead s.regs.pc,
    ((s.afterRead s.regs.pc).afterRead s.regs.pc).memRead (s.regs.pc + 1)]

theorem witness_StepHaltBug :
    (∃ s t : State, fetches s true ∧ decode (bytesTwice s.takeInput) = .ok (.incA, [0x3C, 0xFF]) ∧
      exec .incA (refetchedBy s .incA) = .next t ∧ t.ctl.fault = none) ∧
    (∃ s t : State, fetches s true ∧ decode (bytesTwice s.takeInput) = .ok (.illegalD3, [0xD3, 0xFF]) ∧
      exec .illegalD3 (refetchedBy s .illegalD3) = .next t ∧ t.ctl.fault ≠ none) := by
  refine ⟨⟨{ start [0x3C] [] with ctl := { Control.reset with haltSkip := true } }, _, ⟨?_, ?_, ?_, ?_⟩, ?_, rfl, ?_⟩,
    ⟨{ start [0xD3] [] with ctl := { Control.reset with haltSkip := true } }, _, ⟨?_, ?_, ?_, ?_⟩, ?_, rfl, ?_⟩⟩ <;>
    first | rfl | decide

theorem witness_InterruptPriority :
    ∃ s : State, s.interruptDue = some .timer ∧ s.ctl.ime = true :=
  ⟨{ State.reset with ctl := { Control.reset with ime := true }, intEnable := 0x1C, intFlag := 0x14 }, by decide, rfl⟩

/-- The source serviced first and the one serviced last. -/
theorem witness_InterruptEntry :
    (∃ s : State, s.ctl.fault = none ∧ s.takeInput.interruptDue = some .vBlank) ∧
    ∃ s : State, s.ctl.fault = none ∧ s.takeInput.interruptDue = some .joypad :=
  ⟨⟨{ State.reset with ctl := { Control.reset with ime := true }, intFlag := 0x1F, intEnable := 0xFF }, rfl, by decide⟩,
    ⟨{ State.reset with ctl := { Control.reset with ime := true }, intFlag := 0x10, intEnable := 0x10 }, rfl, by decide⟩⟩

theorem witness_StepsWithoutFetch :
    (∃ s : State, s.ctl.fault = none ∧ s.takeInput.interruptDue = some .joypad) ∧
    (∃ s : State, s.ctl.fault = none ∧ s.ctl.halted = true ∧
      s.takeInput.intEnable.extractLsb' 0 5 &&& s.takeInput.intFlag = 0) :=
  ⟨⟨{ State.reset with ctl := { Control.reset with ime := true }, intEnable := 0x10, intFlag := 0x10 }, rfl, by decide⟩,
    ⟨{ State.reset with ctl := { Control.reset with halted := true }, intEnable := 0x01, intFlag := 0x02 }, rfl, rfl,
      by decide⟩⟩

theorem witness_EiCountdown :
    (∃ s : State, s.ctl.imeDelay = 2) ∧ (∃ s : State, s.ctl.imeDelay = 1) ∧ (∃ s : State, s.ctl.imeDelay = 0) :=
  ⟨⟨{ State.reset with ctl := { Control.reset with imeDelay := 2 } }, rfl⟩,
    ⟨{ State.reset with ctl := { Control.reset with imeDelay := 1 } }, rfl⟩, ⟨State.reset, rfl⟩⟩

theorem witness_ConditionalCycles :
    (∃ s : State, s.params.cycleOverrides = [] ∧ s.holds .z = true ∧ s.holds .nz = false) ∧
    Instr.halt ∈ [Instr.nop, .halt, .di, .ei, .daa, .cpl, .scf, .ccf, .rlca, .rrca, .rla, .rra] :=
  ⟨⟨State.reset, rfl, by decide, by decide⟩, by decide⟩

theorem witness_DecimalAdjust :
    (∃ (x y : Nat) (s : State), x < 100 ∧ y < 100 ∧ s.reg .a = bcd x) ∧
    (∃ s : State, s.reg .a = bcd 99) ∧ (∃ s : State, s.reg .a = bcd 0) :=
  ⟨⟨99, 99, { State.reset with regs := { Regs.reset with a := 0x99 } }, by decide, by decide, rfl⟩,
    ⟨{ State.reset with regs := { Regs.reset with a := 0x99 } }, rfl⟩,
    ⟨{ State.reset with regs := { Regs.reset with a := 0x00 } }, rfl⟩⟩

theorem witness_RotatesShifts :
    (∃ (y : BitVec 3) (op : ShiftOp),
      [ShiftOp.rlc, .rrc, .rl, .rr, .sla, .sra, .swap, .srl][y.toNat]? = some op) ∧
    (Instr.rra, ShiftOp.rr) ∈ [(Instr.rlca, ShiftOp.rlc), (.rrca, .rrc), (.rla, .rl), (.rra, .rr)] :=
  ⟨⟨7, .srl, rfl⟩, by decide⟩

theorem witness_CbResSet : ∃ i : Nat, i < 8 ∧ i = (7 : BitVec 3).toNat := ⟨7, by decide, rfl⟩

/-- Each stack pair's bytes, F's low nibble dropped. -/
theorem witness_PushPop :
    ∃ s : State, (∃ hi lo : Byte, hi = s.regs.b ∧ lo = s.regs.c) ∧ (∃ hi lo : Byte, hi = s.regs.d ∧ lo = s.regs.e) ∧
      (∃ hi lo : Byte, hi = s.regs.h ∧ lo = s.regs.l) ∧
      (∃ hi lo : Byte, hi = s.regs.a ∧ lo = s.regs.f &&& 0xF0) :=
  ⟨State.reset, ⟨_, _, rfl, rfl⟩, ⟨_, _, rfl, rfl⟩, ⟨_, _, rfl, rfl⟩, ⟨_, _, rfl, rfl⟩⟩

/-- Both kinds of stack memory, each at its end. -/
theorem witness_PushThenPop :
    (∃ s : State, (∃ k, s.target (s.regs.sp - 1) = .ram k) ∧ (∃ k, s.target (s.regs.sp - 2) = .ram k) ∧
      s.regs.sp = 0xFFFF) ∧
    (∃ s : State, (∃ k, s.target (s.regs.sp - 1) = .ram k) ∧ (∃ k, s.target (s.regs.sp - 2) = .ram k) ∧
      s.regs.sp = 0xC002) :=
  ⟨⟨{ State.reset with regs := { Regs.reset with sp := 0xFFFF } }, ⟨0xFFFE, by decide⟩, ⟨0xFFFD, by decide⟩, rfl⟩,
    ⟨{ State.reset with regs := { Regs.reset with sp := 0xC002 } }, ⟨0xC001, by decide⟩, ⟨0xC000, by decide⟩, rfl⟩⟩

theorem witness_SystemInstructions :
    (∃ s : State, s.params.haltBug = true ∧ s.ctl.ime = false ∧ s.intEnable.extractLsb' 0 5 &&& s.intFlag ≠ 0) ∧
    (∃ s : State, s.params.haltBug = false) ∧
    (∃ s : State, s.params.haltBug = true ∧ s.ctl.ime = true) ∧
    (∃ s : State, s.params.haltBug = true ∧ s.intEnable.extractLsb' 0 5 &&& s.intFlag = 0) ∧
    (∃ s : State, s.params.stopBehaviour = .asHalt) ∧ (∃ s : State, s.params.stopBehaviour = .fault) :=
  ⟨⟨{ State.reset with params := { Params.defaults with haltBug := true }, intEnable := 0x10, intFlag := 0x10 }, rfl,
      rfl, by decide⟩, ⟨State.reset, rfl⟩,
    ⟨{ State.reset with
      params := { Params.defaults with haltBug := true }, ctl := { Control.reset with ime := true } }, rfl, rfl⟩,
    ⟨{ State.reset with params := { Params.defaults with haltBug := true } }, rfl, by decide⟩, ⟨State.reset, rfl⟩,
    ⟨{ State.reset with params := { Params.defaults with stopBehaviour := .fault } }, rfl⟩⟩

theorem witness_UndefinedOpcodes :
    (0xD3, Instr.illegalD3) ∈ illegalRows ∧ (0xFD, Instr.illegalFD) ∈ illegalRows ∧
    (∃ (b : Byte) (bytes rest : List Byte) (i : Instr), decode (b :: bytes) = .ok (i, rest) ∧
      i ∈ illegalRows.map Prod.snd) :=
  ⟨by decide, by decide, ⟨0xFD, [], [], .illegalFD, rfl, by decide⟩⟩

/-- The default devices are fitted at reset, so the state after any read is the state before. -/
theorem witness_default_devices : ∀ d : DeviceKind, State.reset.params.device d = .default := by
  intro d
  cases d <;> rfl

theorem witness_FrameLoads :
    (∃ t, exec (Instr.loadReg .b .a) State.reset = .next t) ∧
    (∃ u t, u = State.reset.afterRead State.reset.hl ∧ exec (Instr.loadHl .a) State.reset = .next t) ∧
    (∃ t, exec (Instr.loadImm .l 0xFF) State.reset = .next t) ∧
    (∃ u t, u = State.reset.afterRead (State.reset.memAddr .hlDec) ∧ exec (Instr.loadA .hlDec) State.reset = .next t) ∧
    (∃ u t, u = State.reset.afterRead 0xFFFF ∧ exec (.ldAIndA16 0xFFFF) State.reset = .next t) ∧
    (∃ u t, u = State.reset.afterRead (highAddr 0xFF) ∧ exec (.ldhAIndA8 0xFF) State.reset = .next t) ∧
    (∃ u t, u = State.reset.afterRead (highAddr (State.reset.reg .c)) ∧ exec .ldhAIndC State.reset = .next t) :=
  ⟨⟨_, rfl⟩, ⟨_, _, rfl, rfl⟩, ⟨_, rfl⟩, ⟨_, _, rfl, rfl⟩, ⟨_, _, rfl, rfl⟩, ⟨_, _, rfl, rfl⟩, ⟨_, _, rfl, rfl⟩⟩

theorem witness_FramePairs :
    (∃ t, exec (Instr.loadPair .sp 0xFFFF) State.reset = .next t) ∧
    (∃ t, exec (Instr.incPair .bc) State.reset = .next t) ∧ (∃ t, exec (Instr.decPair .sp) State.reset = .next t) ∧
    (∃ t, exec .ldSpHl State.reset = .next t) ∧ (∃ t, exec (Instr.addHl .sp) State.reset = .next t) ∧
    (∃ t, exec (.ldHlSpE8 0x80) State.reset = .next t) ∧ (∃ t, exec (.addSpE8 0x7F) State.reset = .next t) :=
  ⟨⟨_, rfl⟩, ⟨_, rfl⟩, ⟨_, rfl⟩, ⟨_, rfl⟩, ⟨_, rfl⟩, ⟨_, rfl⟩, ⟨_, rfl⟩⟩

theorem witness_FrameAccumulator :
    (∃ u t, u = State.reset.afterOperand .indHl ∧ exec (Instr.aluOf .cp .indHl) State.reset = .next t) ∧
    (∃ t, exec (Instr.aluImm .sbc 0xFF) State.reset = .next t) ∧ (∃ t, exec .daa State.reset = .next t) ∧
    (∃ t, exec .cpl State.reset = .next t) ∧ (∃ t, exec .ccf State.reset = .next t) :=
  ⟨⟨_, _, rfl, rfl⟩, ⟨_, rfl⟩, ⟨_, rfl⟩, ⟨_, rfl⟩, ⟨_, rfl⟩⟩

theorem witness_FrameRegisterOps :
    (∃ t, exec (Instr.incOf (.reg .b)) State.reset = .next t) ∧
    (∃ t, exec (Instr.decOf (.reg .a)) State.reset = .next t) ∧
    (∃ (x : BitVec 2) (y z : BitVec 3) (r : Reg8) (t : State), x ≠ 1 ∧ r8 z = .reg r ∧
      exec (Instr.cbField x y z) State.reset = .next t) ∧
    (∃ u t, u = State.reset.afterOperand (r8 6) ∧ exec (Instr.cbField 1 7 6) State.reset = .next t) :=
  ⟨⟨_, rfl⟩, ⟨_, rfl⟩, ⟨3, 7, 7, .a, _, by decide, rfl, rfl⟩, ⟨_, _, rfl, rfl⟩⟩

theorem witness_FrameStores :
    (∃ t, exec (Instr.storeHl .a) State.reset = .next t) ∧ (∃ t, exec (.ldIndHlN8 0xFF) State.reset = .next t) ∧
    (∃ t, exec (Instr.storeA .hlInc) State.reset = .next t) ∧ (∃ t, exec (.ldIndA16A 0xFFFF) State.reset = .next t) ∧
    (∃ t, exec (.ldhIndA8A 0x46) State.reset = .next t) ∧ (∃ t, exec .ldhIndCA State.reset = .next t) ∧
    (∃ t, exec (.ldIndA16Sp 0xFFFF) State.reset = .next t) :=
  ⟨⟨_, rfl⟩, ⟨_, rfl⟩, ⟨_, rfl⟩, ⟨_, rfl⟩, ⟨_, rfl⟩, ⟨_, rfl⟩, ⟨_, rfl⟩⟩

theorem witness_FrameMemoryOps :
    (∃ t, exec (Instr.incOf .indHl) State.reset = .next t) ∧ (∃ t, exec (Instr.decOf .indHl) State.reset = .next t) ∧
    (∃ (x : BitVec 2) (y : BitVec 3) (t : State), x ≠ 1 ∧ exec (Instr.cbField x y 6) State.reset = .next t) :=
  ⟨⟨_, rfl⟩, ⟨_, rfl⟩, ⟨2, 7, _, by decide, rfl⟩⟩

theorem witness_FrameControl :
    (∃ t, exec (Instr.jumpIf .z 0xFFFF) State.reset = .next t) ∧ (∃ t, exec (.jrE8 0x80) State.reset = .next t) ∧
    (∃ t, exec (Instr.callIf .nc 0x0000) State.reset = .next t) ∧ (∃ t, exec (Instr.rst 7) State.reset = .next t) ∧
    (∃ t, exec (Instr.push .af) State.reset = .next t) ∧
    (∃ t, exec (Instr.retIf .c) State.reset = .next t ∧ State.reset.holds .c = true) ∧
    (∃ t, exec (Instr.retIf .nc) State.reset = .next t ∧ State.reset.holds .nc = false) ∧
    (∃ t, exec .reti State.reset = .next t) ∧ (∃ t, exec (Instr.pop .bc) State.reset = .next t) ∧
    (∃ t, exec (Instr.pop .af) State.reset = .next t) :=
  ⟨⟨_, rfl⟩, ⟨_, rfl⟩, ⟨_, rfl⟩, ⟨_, rfl⟩, ⟨_, rfl⟩, ⟨_, rfl, by decide⟩, ⟨_, rfl, by decide⟩, ⟨_, rfl⟩, ⟨_, rfl⟩,
    ⟨_, rfl⟩⟩

/-- The ends of each range of the bus map. -/
theorem witness_BusMap :
    (0x7FFF : Word).toNat < 0x8000 ∧
    (0xA000 ≤ (0xA000 : Word).toNat ∧ (0xBFFF : Word).toNat < 0xC000) ∧
    (∃ s : State, s.params.extRamPresent = true) ∧ (∃ s : State, s.params.extRamPresent = false) ∧
    (0xC000 ≤ (0xC000 : Word).toNat ∧ (0xDFFF : Word).toNat < 0xE000) ∧
    (0xE000 ≤ (0xE000 : Word).toNat ∧ (0xFDFF : Word).toNat < 0xFE00) ∧
    (0xFEA0 ≤ (0xFEA0 : Word).toNat ∧ (0xFEFF : Word).toNat < 0xFF00) ∧
    (0xFF08 ≤ (0xFF08 : Word).toNat ∧ (0xFF0E : Word).toNat ≤ 0xFF0E) ∧
    (0xFF10 ≤ (0xFF10 : Word).toNat ∧ (0xFF3F : Word).toNat ≤ 0xFF3F) ∧
    (0xFF4C ≤ (0xFF4C : Word).toNat ∧ (0xFF7F : Word).toNat ≤ 0xFF7F) ∧
    (0xFF80 ≤ (0xFF80 : Word).toNat ∧ (0xFFFE : Word).toNat < 0xFFFF) :=
  ⟨by decide, by decide, ⟨{ State.reset with params := { Params.defaults with extRamPresent := true } }, rfl⟩,
    ⟨State.reset, rfl⟩, by decide, by decide, by decide, by decide, by decide, by decide, by decide⟩

theorem witness_PpuLocks :
    (0x8000 ≤ (0x8000 : Word).toNat ∧ (0x9FFF : Word).toNat < 0xA000) ∧
    (0xFE00 ≤ (0xFE00 : Word).toNat ∧ (0xFE9F : Word).toNat < 0xFEA0) ∧
    (0xFF47 ≤ (0xFF47 : Word).toNat ∧ (0xFF49 : Word).toNat ≤ 0xFF49) ∧
    (∃ s : State, s.ppu.vramLock = true ∧ s.ppu.oamLock = true ∧ s.ppu.palLock = true) ∧
    (∃ s : State, s.ppu.vramLock = false ∧ s.ppu.oamLock = false ∧ s.ppu.palLock = false) :=
  ⟨by decide, by decide, by decide,
    ⟨{ State.reset with ppu := { Ppu.reset with vramLock := true, oamLock := true, palLock := true } }, rfl, rfl, rfl⟩,
    ⟨State.reset, rfl, rfl, rfl⟩⟩

/-- A state with another device of each kind fitted. -/
def fitted : State :=
  { State.reset with
    params := { Params.defaults with timerDevice := .other 1, joypadDevice := .other 2, serialDevice := .other 3 } }

theorem witness_IoRegisters :
    (0xFF4B : Word) ∈ ([0xFF40, 0xFF42, 0xFF43, 0xFF45, 0xFF4A, 0xFF4B] : List Word) ∧
    (∀ a ∈ ([0xFF00, 0xFF01, 0xFF02, 0xFF04, 0xFF07] : List Word),
      (a = 0xFF00 → State.reset.params.joypadDevice = .default) ∧
      (a = 0xFF01 ∨ a = 0xFF02 → State.reset.params.serialDevice = .default) ∧
      (0xFF04 ≤ a.toNat ∧ a.toNat ≤ 0xFF07 → State.reset.params.timerDevice = .default)) ∧
    (∀ a ∈ ([0xFF03, 0xFF08] : List Word),
      (a = 0xFF00 → fitted.params.joypadDevice = .default) ∧
      (a = 0xFF01 ∨ a = 0xFF02 → fitted.params.serialDevice = .default) ∧
      (0xFF04 ≤ a.toNat ∧ a.toNat ≤ 0xFF07 → fitted.params.timerDevice = .default)) ∧
    (fitted.params.device .timer = .other 1 ∧ (0 : Nat) < 4 ∧ (3 : Nat) < 4) ∧
    (fitted.params.device .joypad = .other 2 ∧ (0 : Nat) < 1) ∧
    (fitted.params.device .serial = .other 3 ∧ (1 : Nat) < 2) ∧
    (∃ l : Launch, l.params = fitted.params) :=
  ⟨by decide, fun _ _ => ⟨fun _ => rfl, fun _ => rfl, fun _ => rfl⟩, by simp, ⟨rfl, by decide, by decide⟩,
    ⟨rfl, by decide⟩, ⟨rfl, by decide⟩, ⟨{ Launch.defaults with params := fitted.params }, rfl⟩⟩

/-- R1460: DIV of another timer device is read by that device's read, at its place 0 with its own state. -/
theorem test_fitted_timer_read : fitted.memRead 0xFF04 = Config.deviceRead .timer 1 0 0 := rfl

/-- R1460: a write of SC reaches another serial device at its place 1 and not the default one. -/
theorem test_fitted_serial_write :
    (fitted.memWrite 0xFF02 0x81).others.serial = (Config.deviceWrite .serial 3 0 1 0x81).1 ∧
      (fitted.memWrite 0xFF02 0x81).serial = State.reset.serial := by
  have h : fitted.memWrite 0xFF02 0x81 = fitted.setOther .serial (Config.deviceWrite .serial 3 0 1 0x81) := rfl
  rw [h]
  exact ⟨by simp [OtherDevices.set], by simp [fitted]⟩

theorem witness_DmaTransfer :
    (0x00 : Byte).toNat < 0xFE ∧ (0xFD : Byte).toNat < 0xFE ∧ (159 : Nat) < 160 ∧ (0xFDFF : Nat) < 0xFE00 := by decide

theorem witness_DmaHighPages :
    0xFE ≤ (0xFE : Byte).toNat ∧ 0xFE ≤ (0xFF : Byte).toNat ∧ (159 : Nat) < 160 ∧ (0xFDFF : Nat) < 0xFE00 := by decide

theorem witness_TimerDevice : ∃ s : State, s.params.timerDevice = .default := ⟨State.reset, rfl⟩

theorem witness_JoypadDevice :
    (∃ s : State, s.params.joypadDevice = .default) ∧ (0 : Nat) < 4 ∧ (3 : Nat) < 4 :=
  ⟨⟨State.reset, rfl⟩, by decide⟩

theorem witness_SerialDevice :
    (∃ s : State, s.params.serialDevice = .default ∧ s.serial.left = 0) ∧
    (∃ s : State, s.params.serialDevice = .default ∧ 1 < s.serial.left) ∧
    (∃ s : State, s.params.serialDevice = .default ∧ s.serial.left = 1) :=
  ⟨⟨State.reset, rfl, rfl⟩, ⟨{ State.reset with serial := ⟨0, true, true, 2⟩ }, rfl, by decide⟩,
    ⟨{ State.reset with serial := ⟨0, true, true, 1⟩ }, rfl, rfl⟩⟩

/-- The reset state with the PPU in a mode at a line. -/
def lcdAt (m : Mode) (ly : Byte) : State :=
  { State.reset with lcd := { Lcd.reset with ly := ly }, ppu := { Ppu.reset with mode := m } }

theorem witness_PpuLineEnds :
    ∀ m ∈ [Mode.hBlank, Mode.vBlank], ∀ ly ∈ ([142, 143, 152, 153] : List Byte),
      (lcdAt m ly).lcd.lcdc.getLsbD 7 = true ∧ (lcdAt m ly).ppu.lcdWasOn = true ∧ (lcdAt m ly).ppu.wait = 0 ∧
        (lcdAt m ly).ppu.mode = m ∧ (lcdAt m ly).lcd.ly = ly := by decide

theorem witness_PpuOamScan :
    (∃ s : State, s.lcd.lcdc.getLsbD 7 = true ∧ s.ppu.lcdWasOn = true ∧ s.ppu.mode = .oamScan ∧ s.ppu.wait = 0 ∧
      s.ppu.scanDone = false ∧ ∃ k : Fin 40,
        (s.mem.read (0xFE00 + 4 * k.val)).toNat ≤ s.lcd.ly.toNat + 16 ∧
        s.lcd.ly.toNat + 16 < (s.mem.read (0xFE00 + 4 * k.val)).toNat + (if s.lcd.lcdc.getLsbD 2 then 16 else 8)) ∧
    (∃ s : State, s.lcd.lcdc.getLsbD 7 = true ∧ s.ppu.lcdWasOn = true ∧ s.ppu.mode = .oamScan ∧ 0 < s.ppu.wait) ∧
    (∃ s : State, s.lcd.lcdc.getLsbD 7 = true ∧ s.ppu.lcdWasOn = true ∧ s.ppu.mode = .oamScan ∧ s.ppu.wait = 0 ∧
      s.ppu.scanDone = true ∧ s.ppu.bgFifo = []) :=
  ⟨⟨{ State.reset with mem := [(0xFE9C, 0x10)] }, by decide, rfl, rfl, rfl, rfl, 39, by decide, by decide⟩,
    ⟨{ State.reset with ppu := { Ppu.reset with wait := 1 } }, by decide, rfl, rfl, by decide⟩,
    ⟨{ State.reset with ppu := { Ppu.reset with scanDone := true } }, by decide, rfl, rfl, rfl, rfl, rfl⟩⟩

theorem witness_LcdOffOn :
    (∃ s : State, s.lcd.lcdc.getLsbD 7 = false ∧ s.ppu.lcdWasOn = true) ∧
    (∃ s : State, s.lcd.lcdc.getLsbD 7 = false ∧ s.ppu.lcdWasOn = false) ∧
    (∃ s : State, s.lcd.lcdc.getLsbD 7 = true ∧ s.ppu.lcdWasOn = false) :=
  ⟨⟨{ State.reset with lcd := { Lcd.reset with lcdc := 0x11 } }, by decide, rfl⟩,
    ⟨{ State.reset with lcd := { Lcd.reset with lcdc := 0x11 }, ppu := { Ppu.reset with lcdWasOn := false } },
      by decide, rfl⟩,
    ⟨{ State.reset with ppu := { Ppu.reset with lcdWasOn := false } }, by decide, rfl⟩⟩

theorem witness_StatUpdate :
    (∃ s : State, s.lcd.lcdc.getLsbD 7 = false) ∧ (∃ s : State, s.lcd.lcdc.getLsbD 7 = true) :=
  ⟨⟨{ State.reset with lcd := { Lcd.reset with lcdc := 0x11 } }, by decide⟩, ⟨State.reset, by decide⟩⟩

theorem witness_TileFetch :
    (∃ s : State, 8 < s.ppu.bgFifo.length) ∧
    (∃ s : State, s.ppu.bgFifo.length ≤ 8 ∧ s.ppu.winActive = false) ∧
    (∃ s : State, s.ppu.bgFifo.length ≤ 8 ∧ s.ppu.bgFifo.length = 8 ∧ s.ppu.winActive = true) :=
  ⟨⟨{ State.reset with ppu := { Ppu.reset with bgFifo := List.replicate 9 ⟨1, 2⟩ } }, by decide⟩,
    ⟨State.reset, by decide, rfl⟩,
    ⟨{ State.reset with ppu := { Ppu.reset with bgFifo := List.replicate 8 ⟨1, 2⟩, winActive := true } }, by decide,
      by decide, rfl⟩⟩

/-- The first and the last row of a sprite. -/
theorem witness_SpriteFetch :
    (∃ (s : State) (k : Fin 40), (s.mem.read (0xFE00 + 4 * k.val + 0)).toNat ≤ s.lcd.ly.toNat + 16 ∧
      s.lcd.ly.toNat + 16 < (s.mem.read (0xFE00 + 4 * k.val + 0)).toNat + 8 ∧ s.lcd.lcdc.getLsbD 2 = false) ∧
    (∃ (s : State) (k : Fin 40), (s.mem.read (0xFE00 + 4 * k.val + 0)).toNat ≤ s.lcd.ly.toNat + 16 ∧
      s.lcd.ly.toNat + 16 < (s.mem.read (0xFE00 + 4 * k.val + 0)).toNat + 16 ∧ s.lcd.lcdc.getLsbD 2 = true) ∧
    (∃ (s : State) (k : Fin 40), s.lcd.ly.toNat + 16 < (s.mem.read (0xFE00 + 4 * k.val)).toNat) ∧
    (∃ (s : State) (k : Fin 40), (s.mem.read (0xFE00 + 4 * k.val)).toNat + 16 = s.lcd.ly.toNat + 16 ∧
      s.lcd.lcdc.getLsbD 2 = true) :=
  ⟨⟨{ State.reset with mem := [(0xFE00, 0x10)] }, 0, by decide, by decide, by decide⟩,
    ⟨{ State.reset with lcd := { Lcd.reset with lcdc := 0x95 }, mem := [(0xFE9C, 0x01)] }, 39, by decide, by decide,
      by decide⟩,
    ⟨{ State.reset with mem := [(0xFE00, 0x11)] }, 0, by decide⟩,
    ⟨{ State.reset with lcd := { Lcd.reset with lcdc := 0x95 } }, 0, by decide, by decide⟩⟩

/-- R1350: at column 0 a sprite with X = 3 is fetched without its five entries left of the screen; one with X = 9
waits. -/
theorem test_fetch_sprites_hidden_part :
    let t := ({ State.reset with
      ppu := { Ppu.reset with sprites := [⟨0, false⟩, ⟨1, false⟩] }
      mem := [(0xFE00, 0x10), (0xFE01, 0x03), (0xFE04, 0x10), (0xFE05, 0x09)] } : State).fetchSprites
    t.ppu.sprites = [⟨0, true⟩, ⟨1, false⟩] ∧ t.ppu.objFifo.length = 3 := by decide

/-- R1343: the window at WX = 3 starts at column 0 and discards 7 - 3 pixels. -/
theorem test_window_starts :
    let t := ({ State.reset with lcd := { Lcd.reset with lcdc := 0xB1, wx := 3 } } : State).windowCheck
    t.ppu.winActive = true ∧ t.ppu.discard = 4 := by decide

/-- The window's start at both scroll conditions' bounds, and each condition missing; the pops. -/
theorem witness_PixelOutput :
    (∃ s : State, s.ppu.winActive = false ∧ s.lcd.lcdc.getLsbD 5 = true ∧ s.lcd.wy.toNat = s.lcd.ly.toNat ∧
      s.lcd.wx.toNat = s.ppu.x + 7) ∧
    (∃ s : State, s.ppu.winActive = false ∧ s.lcd.lcdc.getLsbD 5 = true ∧ s.lcd.wy.toNat ≤ s.lcd.ly.toNat ∧
      ¬s.lcd.wx.toNat ≤ s.ppu.x + 7) ∧
    (∃ s : State, ¬s.lcd.lcdc.getLsbD 5 = true) ∧
    (∃ s : State, s.ppu.bgFifo.length ≤ 8 ∧ s.ppu.bgFifo.length = 8) ∧
    (∃ s : State, 8 < s.ppu.bgFifo.length ∧ 0 < s.ppu.discard) ∧
    (∃ (s : State) (b : BgPixel) (bs : List BgPixel), s.ppu.bgFifo = b :: bs ∧ 8 ≤ bs.length ∧ s.ppu.discard = 0 ∧
      s.lcd.ly.toNat < 144 ∧ s.ppu.x < 160 ∧ s.ppu.x = 159) ∧
    (∃ (s : State) (b : BgPixel) (bs : List BgPixel), s.ppu.bgFifo = b :: bs ∧ 8 ≤ bs.length ∧ s.ppu.discard = 0 ∧
      s.lcd.ly.toNat < 144 ∧ s.ppu.x < 160 ∧ s.ppu.x ≠ 159) :=
  ⟨⟨{ State.reset with lcd := { Lcd.reset with lcdc := 0xB1, wx := 7 } }, rfl, by decide, rfl, rfl⟩,
    ⟨{ State.reset with lcd := { Lcd.reset with lcdc := 0xB1, wx := 8 } }, rfl, by decide, by decide, by decide⟩,
    ⟨State.reset, by decide⟩,
    ⟨{ State.reset with ppu := { Ppu.reset with bgFifo := List.replicate 8 ⟨1, 2⟩ } }, by decide, by decide⟩,
    ⟨{ State.reset with ppu := { Ppu.reset with bgFifo := List.replicate 9 ⟨1, 2⟩, discard := 1 } }, by decide,
      by decide⟩,
    ⟨{ State.reset with
      lcd := { Lcd.reset with ly := 143 }
      ppu := { Ppu.reset with bgFifo := List.replicate 9 ⟨1, 2⟩, x := 159 } }, ⟨1, 2⟩, List.replicate 8 ⟨1, 2⟩, rfl,
      by decide, rfl, by decide, by decide, rfl⟩,
    ⟨{ State.reset with ppu := { Ppu.reset with bgFifo := List.replicate 9 ⟨1, 2⟩ } }, ⟨1, 2⟩,
      List.replicate 8 ⟨1, 2⟩, rfl, by decide, rfl, by decide, by decide, by decide⟩⟩

end Sys2Proof.Tests.Slice0
end

section
/-!
PROOFS. The machine cycles of each family of instructions with the default cycle table (spec/00_scope.md R18,
spec/70_reset_and_hazards.md R1510): what the table holds for an encoding does not depend on the state, so each count
is read off the encoding once.
-/

namespace Sys2Proof.Machine

open Sys2Proof

/-! ### The default table's entry of an encoding -/

/-- The condition and the entry of the default table for the instruction with these bytes. -/
def defaultEntry (bytes : List Byte) : Option Cond × CyclePair :=
  match bytes with
  | 0xCB :: op2 :: _ => (none, defaultCycles true op2)
  | op :: _ => (condOf op, defaultCycles false op)
  | [] => (none, flat 0)

theorem defaultEntry_prefixed (op2 : Byte) : defaultEntry [0xCB, op2] = (none, defaultCycles true op2) := rfl

/-- No entry of `CycleTable` is replaced, so each is the default's (R1510). -/
theorem cyclePair_of_no_overrides {p : Params} (h : p.cycleOverrides = []) (prefixed : Bool) (op : Byte) :
    cyclePair p prefixed op = defaultCycles prefixed op := by
  simp [cyclePair, h]

section
variable {s : State} (h : s.params.cycleOverrides = [])
include h

/-- The cycles of an encoding are its default entry, chosen by its condition (R18). -/
theorem cyclesOfBytes_eq (bytes : List Byte) :
    s.cyclesOfBytes bytes =
      match defaultEntry bytes with
      | (some k, p) => if s.holds k then p.1 else p.2
      | (none, p) => p.1 := by
  unfold State.cyclesOfBytes
  simp only [cyclePair_of_no_overrides h]
  split
  next => rfl
  next op rest hne =>
    rw [defaultEntry.eq_2 op rest hne]
    cases condOf op <;> rfl
  next => rfl

/-- An entry without a condition is the count. -/
theorem cyclesOf_of_flat {i : Instr} {n : Nat} (he : defaultEntry (encode i) = (none, flat n)) :
    s.cyclesOf i = n := by
  rw [State.cyclesOf, cyclesOfBytes_eq h, he]
  rfl

/-- An entry with a condition: the first value when it holds, the second when it does not. -/
theorem cyclesOf_of_cond {i : Instr} {k : Cond} {t f : Nat} (he : defaultEntry (encode i) = (some k, (t, f))) :
    s.cyclesOf i = if s.holds k then t else f := by
  rw [State.cyclesOf, cyclesOfBytes_eq h, he]

/-! ### Jumps, calls, returns, restarts and the stack -/

theorem cyclesOf_jumpIf (k : Cond) (a : Word) : s.cyclesOf (.jumpIf k a) = if s.holds k then 4 else 3 :=
  cyclesOf_of_cond h (by cases k <;> rfl)

theorem cyclesOf_jumpRelIf (k : Cond) (e : Byte) : s.cyclesOf (.jumpRelIf k e) = if s.holds k then 3 else 2 :=
  cyclesOf_of_cond h (by cases k <;> rfl)

theorem cyclesOf_callIf (k : Cond) (a : Word) : s.cyclesOf (.callIf k a) = if s.holds k then 6 else 3 :=
  cyclesOf_of_cond h (by cases k <;> rfl)

theorem cyclesOf_retIf (k : Cond) : s.cyclesOf (.retIf k) = if s.holds k then 5 else 2 :=
  cyclesOf_of_cond h (by cases k <;> rfl)

theorem cyclesOf_rst (y : BitVec 3) : s.cyclesOf (.rst y) = 4 :=
  cyclesOf_of_flat h (by revert y; decide)

theorem cyclesOf_push (p : RegStk) : s.cyclesOf (.push p) = 4 :=
  cyclesOf_of_flat h (by cases p <;> rfl)

theorem cyclesOf_pop (p : RegStk) : s.cyclesOf (.pop p) = 3 :=
  cyclesOf_of_flat h (by cases p <;> rfl)

/-! ### Loads -/

theorem cyclesOf_loadReg (dst r : Reg8) : s.cyclesOf (.loadReg dst r) = 1 :=
  cyclesOf_of_flat h (by cases dst <;> cases r <;> rfl)

theorem cyclesOf_loadHl (dst : Reg8) : s.cyclesOf (.loadHl dst) = 2 :=
  cyclesOf_of_flat h (by cases dst <;> rfl)

theorem cyclesOf_storeHl (r : Reg8) : s.cyclesOf (.storeHl r) = 2 :=
  cyclesOf_of_flat h (by cases r <;> rfl)

theorem cyclesOf_loadImm (dst : Reg8) (n : Byte) : s.cyclesOf (.loadImm dst n) = 2 :=
  cyclesOf_of_flat h (by cases dst <;> rfl)

theorem cyclesOf_loadA (m : RegMem) : s.cyclesOf (.loadA m) = 2 :=
  cyclesOf_of_flat h (by cases m <;> rfl)

theorem cyclesOf_storeA (m : RegMem) : s.cyclesOf (.storeA m) = 2 :=
  cyclesOf_of_flat h (by cases m <;> rfl)

theorem cyclesOf_loadPair (p : Reg16) (n : Word) : s.cyclesOf (.loadPair p n) = 3 :=
  cyclesOf_of_flat h (by cases p <;> rfl)

/-! ### Arithmetic and logic -/

theorem cyclesOf_incPair (p : Reg16) : s.cyclesOf (.incPair p) = 2 :=
  cyclesOf_of_flat h (by cases p <;> rfl)

theorem cyclesOf_decPair (p : Reg16) : s.cyclesOf (.decPair p) = 2 :=
  cyclesOf_of_flat h (by cases p <;> rfl)

theorem cyclesOf_addHl (p : Reg16) : s.cyclesOf (.addHl p) = 2 :=
  cyclesOf_of_flat h (by cases p <;> rfl)

theorem cyclesOf_aluOf (op : AluOp) (o : Operand8) : s.cyclesOf (.aluOf op o) = if o = .indHl then 2 else 1 := by
  apply cyclesOf_of_flat h
  cases o with
  | indHl => cases op <;> rfl
  | reg r => cases op <;> cases r <;> rfl

theorem cyclesOf_aluImm (op : AluOp) (n : Byte) : s.cyclesOf (.aluImm op n) = 2 :=
  cyclesOf_of_flat h (by cases op <;> rfl)

theorem cyclesOf_incOf (o : Operand8) : s.cyclesOf (.incOf o) = if o = .indHl then 3 else 1 := by
  apply cyclesOf_of_flat h
  cases o with
  | indHl => rfl
  | reg r => cases r <;> rfl

theorem cyclesOf_decOf (o : Operand8) : s.cyclesOf (.decOf o) = if o = .indHl then 3 else 1 := by
  apply cyclesOf_of_flat h
  cases o with
  | indHl => rfl
  | reg r => cases r <;> rfl

/-! ### The CB instructions -/

omit h in
/-- The CB table by the fields of the second byte (R308, R1510): z the operand, x = 1 BIT, which does not write. -/
theorem defaultCycles_cbField (x : BitVec 2) (y z : BitVec 3) :
    defaultCycles true (x ++ y ++ z : BitVec 8) = flat (if r8 z = .indHl then (if x = 1 then 3 else 4) else 2) := by
  revert x y z
  decide

theorem cyclesOf_cbField (x : BitVec 2) (y z : BitVec 3) :
    s.cyclesOf (.cbField x y z) = if r8 z = .indHl then (if x = 1 then 3 else 4) else 2 :=
  cyclesOf_of_flat h (by
    rw [Instr.cbField, (cbOf_encode _).1, defaultEntry_prefixed, defaultCycles_cbField])

omit h in
/-- The row of 0xCB itself and the CB row of its second byte have the same bytes (R1117), so the same count with any
cycle table. -/
theorem cyclesOf_prefixCb (b : Byte) : s.cyclesOf (.prefixCb b) = s.cyclesOf (cbOf b) :=
  congrArg s.cyclesOfBytes (cbOf_encode b).1.symm

/-! ### The one-byte operations without an operand -/

omit h in
theorem defaultEntry_noOperand :
    ∀ i ∈ [Instr.nop, .halt, .di, .ei, .daa, .cpl, .scf, .ccf, .rlca, .rrca, .rla, .rra],
      defaultEntry (encode i) = (none, flat 1) := by
  decide

end

/-- Settles O16, family by family from the default table's entry of each encoding. -/
theorem conditionalCycles : Obligations.ConditionalCycles := by
  unfold Obligations.ConditionalCycles
  intro s h
  have fixed {i : Instr} {n : Nat} := cyclesOf_of_flat h (i := i) (n := n)
  refine ⟨fun k a e => ?_, fun a e y p => ?_, fun dst r m a n => ?_, fun p n e => ?_, fun op o n => ?_,
    fun i hi => fixed (defaultEntry_noOperand i hi), fun b => fixed rfl, cyclesOf_cbField h, cyclesOf_prefixCb⟩
  · exact ⟨cyclesOf_jumpIf h k a, cyclesOf_jumpRelIf h k e, cyclesOf_callIf h k a, cyclesOf_retIf h k⟩
  · exact ⟨fixed rfl, fixed rfl, fixed rfl, fixed rfl, fixed rfl, fixed rfl, cyclesOf_rst h y, cyclesOf_push h p,
      cyclesOf_pop h p⟩
  · exact ⟨cyclesOf_loadReg h dst r, cyclesOf_loadHl h dst, cyclesOf_storeHl h r, cyclesOf_loadImm h dst n, fixed rfl,
      cyclesOf_loadA h m, cyclesOf_storeA h m, fixed rfl, fixed rfl, fixed rfl, fixed rfl, fixed rfl, fixed rfl⟩
  · exact ⟨cyclesOf_loadPair h p n, fixed rfl, fixed rfl, fixed rfl, fixed rfl, cyclesOf_incPair h p,
      cyclesOf_decPair h p, cyclesOf_addHl h p⟩
  · exact ⟨cyclesOf_aluOf h op o, cyclesOf_aluImm h op n, cyclesOf_incOf h o, cyclesOf_decOf h o⟩

end Sys2Proof.Machine
end

section
/-!
PROOFS. The machine invariant (Machine/Invariant.lean) holds at reset and every system step of spec/60_exceptions.md
R1213 keeps it. The CPU's part of a step keeps it by `CpuKeeps`; of its device time, only a PPU dot needs an invariant
of its own, `State.MidDot`, since a dot changes the mode before it shows it in STAT (R1300, R1310).
-/

namespace Sys2Proof.Machine

/-! ### Within a PPU dot -/

/-- What the invariant says of the PPU and the framebuffer, but for the mode that STAT shows: it holds all through a
dot, between the change of mode and the `UpdateLcdRegs` that ends the dot (R1300, R1310). -/
structure State.MidDot (s : State) : Prop where
  ppu : PpuInv { s.lcd with statMode := s.ppu.mode } s.ppu
  fb : s.fb.wf ∧ ∀ c ∈ s.fb, c.1 < 23040

theorem State.Inv.midDot {s : State} (h : s.Inv) : s.MidDot where
  ppu := { h.ppu with statMode := rfl }
  fb := h.fb

/-- What the invariant says of the PPU and the framebuffer, as it stands after a dot: STAT shows the mode. -/
structure State.DotDone (s : State) : Prop where
  ppu : PpuInv s.lcd s.ppu
  fb : s.fb.wf ∧ ∀ c ∈ s.fb, c.1 < 23040

/-- `UpdateLcdRegs` makes STAT show the mode again (R1310). -/
theorem State.MidDot.updateLcdRegs {s : State} (h : s.MidDot) : s.updateLcdRegs.DotDone := by
  obtain ⟨hlcd, hfb, hppu⟩ := s.updateLcdRegs_lcd
  refine ⟨?_, hfb ▸ h.fb⟩
  rw [hlcd, hppu]
  exact { h.ppu with }

/-- `line_dot` and `wait` are no part of the invariant. -/
theorem State.MidDot.withCounters {s : State} (h : s.MidDot) (wait lineDot : Nat) :
    State.MidDot { s with ppu := { s.ppu with wait := wait, lineDot := lineDot } } :=
  ⟨{ h.ppu with }, h.fb⟩

/-- A PPU in any mode but H-blank has seen the LCD on (R1330). -/
theorem PpuInv.lcdWasOn_true {l : Lcd} {p : Ppu} (h : PpuInv l p) (hm : p.mode ≠ .hBlank) : p.lcdWasOn = true := by
  cases hon : p.lcdWasOn with
  | true => rfl
  | false => exact absurd (h.lcdOff hon) hm

/-- A scan is under way in mode 2 alone (R1320, R1322). -/
theorem PpuInv.scanDone_false {l : Lcd} {p : Ppu} (h : PpuInv l p) (hm : p.mode ≠ .oamScan) : p.scanDone = false := by
  cases hs : p.scanDone with
  | false => rfl
  | true => exact absurd (h.scanDone hs) hm

/-- No line is being scanned or drawn, so every lock is open (R213). -/
structure Ppu.Idle (p : Ppu) : Prop where
  scanDone : p.scanDone = false
  mode : p.mode ≠ .drawPixels
  oamLock : p.oamLock = false
  vramLock : p.vramLock = false
  palLock : p.palLock = false

/-- In the blanks the PPU is idle. -/
theorem PpuInv.idle {l : Lcd} {p : Ppu} (h : PpuInv l p) (hm : p.mode = .hBlank ∨ p.mode = .vBlank) : p.Idle := by
  have hscan : p.scanDone = false := h.scanDone_false (by rcases hm with hm | hm <;> simp [hm])
  have hdraw : (p.mode == .drawPixels) = false := by rcases hm with hm | hm <;> rw [hm] <;> rfl
  exact
    { scanDone := hscan
      mode := ne_of_beq_false hdraw
      oamLock := by rw [h.oamLock, hscan, hdraw, Bool.or_false]
      vramLock := h.vramLock.trans hdraw
      palLock := h.palLock.trans hdraw }

/-- What an idle PPU has to satisfy besides: nothing about the scan, the output column or the locks. -/
theorem Ppu.Idle.inv {l : Lcd} {p : Ppu} (h : p.Idle) (statMode : l.statMode = p.mode)
    (ly_vBlank : p.mode = .vBlank → 144 ≤ l.ly.toNat ∧ l.ly.toNat ≤ 153)
    (ly_visible : p.mode ≠ .vBlank → l.ly.toNat < 144) (bgFifo : p.bgFifo.length ≤ 16) (objFifo : p.objFifo.length ≤ 8)
    (discard : p.discard ≤ 7) (lcdOff : p.lcdWasOn = false → p.mode = .hBlank) : PpuInv l p := by
  obtain ⟨hscan, hmode, hoam, hvram, hpal⟩ := h
  have hdraw : (p.mode == .drawPixels) = false := beq_false_of_ne hmode
  exact
    { statMode, ly_vBlank, ly_visible, bgFifo, objFifo, discard, lcdOff
      scanDone := fun hs => by simp [hscan] at hs
      column := fun hc => by simp [hscan, hmode] at hc
      oamLock := by rw [hoam, hscan, hdraw, Bool.or_false]
      vramLock := hvram.trans hdraw.symm
      palLock := hpal.trans hdraw.symm }

/-! ### The pixel pipeline -/

@[simp] theorem State.windowCheck_mode (s : State) : s.windowCheck.ppu.mode = s.ppu.mode := by
  unfold State.windowCheck
  split <;> rfl

@[simp] theorem State.pushTile_mode (s : State) : s.pushTile.ppu.mode = s.ppu.mode := by
  unfold State.pushTile
  split <;> rfl

@[simp] theorem State.fetchedTile_length (s : State) : s.fetchedTile.length = 8 := rfl

theorem State.MidDot.windowCheck {s : State} (h : s.MidDot) : s.windowCheck.MidDot := by
  unfold State.windowCheck
  split
  · exact ⟨{ h.ppu with bgFifo := Nat.zero_le _, discard := Nat.sub_le _ _ }, h.fb⟩
  · exact h

/-- A push into at most 8 entries leaves at most 16 (R1344). -/
theorem State.MidDot.pushTile {s : State} (h : s.MidDot) : s.pushTile.MidDot := by
  unfold State.pushTile
  split
  · rename_i hroom
    have hlen : (s.ppu.bgFifo ++ s.fetchedTile).length ≤ 16 := by
      rw [List.length_append, State.fetchedTile_length]
      omega
    exact ⟨{ h.ppu with bgFifo := hlen }, h.fb⟩
  · exact h

theorem State.MidDot.fetchSprites {s : State} (h : s.MidDot) : s.fetchSprites.MidDot :=
  ⟨{ h.ppu with objFifo := s.fetchSpritesFrom_length _ h.ppu.objFifo }, h.fb⟩

/-- A pixel lies within the framebuffer's 144 rows of 160 entries (R1356). -/
theorem Framebuffer.write_bounded {fb : Framebuffer} {y x : Nat} (v : Shade) (hy : y < 144) (hx : x < 160)
    (h : fb.wf ∧ ∀ c ∈ fb, c.1 < 23040) : (fb.write y x v).wf ∧ ∀ c ∈ fb.write y x v, c.1 < 23040 := by
  refine ⟨Framebuffer.wf_write y x v h.1, fun c hc => ?_⟩
  rcases Framebuffer.mem_write hc with hpos | hold
  · rw [hpos, Framebuffer.pos]
    omega
  · exact h.2 c hold

/-- Writing out the pixel at column 159 ends mode 3 and opens every lock (R1323, R1340). -/
theorem State.MidDot.outputPixel {s : State} (h : s.MidDot) (hm : s.ppu.mode = .drawPixels) : s.outputPixel.MidDot := by
  have h1 := h.fetchSprites
  have hm1 : s.fetchSprites.ppu.mode = .drawPixels := hm
  unfold State.outputPixel
  simp only
  generalize s.fetchSprites = u at h1 hm1
  have hx : u.ppu.x < 160 := h1.ppu.column (.inr hm1)
  have hly : u.lcd.ly.toNat < 144 := h1.ppu.ly_visible (by simp [hm1])
  have hobj : u.ppu.objFifo.tail.length ≤ 8 := by
    rw [List.length_tail]
    exact (Nat.sub_le _ _).trans h1.ppu.objFifo
  split
  · exact h1
  · rename_i b bs hcons
    have hbg : bs.length ≤ 16 := by
      have hfull := h1.ppu.bgFifo
      rw [hcons, List.length_cons] at hfull
      exact Nat.le_of_succ_le hfull
    have hfb := Framebuffer.write_bounded (u.composite b u.ppu.objFifo.head?) hly hx h1.fb
    split
    · have hscan : u.ppu.scanDone = false := h1.ppu.scanDone_false (by simp [hm1])
      exact ⟨Ppu.Idle.inv ⟨hscan, nofun, rfl, rfl, rfl⟩ rfl (ly_vBlank := nofun) (ly_visible := fun _ => hly)
        (bgFifo := hbg) (objFifo := hobj) (discard := h1.ppu.discard) (lcdOff := fun _ => rfl), hfb⟩
    · rename_i hend
      exact ⟨{ h1.ppu with
        bgFifo := hbg, objFifo := hobj, column := fun _ => Nat.lt_of_le_of_ne hx hend }, hfb⟩

theorem State.MidDot.popPixel {s : State} (h : s.MidDot) (hm : s.ppu.mode = .drawPixels) : s.popPixel.MidDot := by
  have hbg : s.ppu.bgFifo.tail.length ≤ 16 := by
    rw [List.length_tail]
    exact (Nat.sub_le _ _).trans h.ppu.bgFifo
  unfold State.popPixel
  split
  · split
    · exact ⟨{ h.ppu with bgFifo := hbg, discard := (Nat.sub_le _ _).trans h.ppu.discard }, h.fb⟩
    · exact h.outputPixel hm
  · exact h

theorem State.MidDot.drawDot {s : State} (h : s.MidDot) (hm : s.ppu.mode = .drawPixels) : s.drawDot.MidDot :=
  h.windowCheck.pushTile.popPixel (by simpa using hm)

/-! ### The phases of a dot -/

/-- Mode 2 to mode 3: VRAM and the palettes are locked as OAM already is (R213, R1322). -/
theorem State.MidDot.oamScanEnd {s : State} (h : s.MidDot) (hm : s.ppu.mode = .oamScan) (hs : s.ppu.scanDone = true) :
    s.oamScanEnd.MidDot := by
  have hoam : s.ppu.oamLock = true := by simpa [hs] using h.ppu.oamLock
  have hoff : s.ppu.lcdWasOn ≠ false := by simp [h.ppu.lcdWasOn_true (by simp [hm])]
  refine State.MidDot.drawDot ⟨?_, h.fb⟩ rfl
  exact
    { h.ppu with
      ly_vBlank := nofun
      ly_visible := fun _ => h.ppu.ly_visible (by simp [hm])
      statMode := rfl
      scanDone := nofun
      column := fun _ => h.ppu.column (.inl hs)
      oamLock := hoam
      vramLock := rfl
      palLock := rfl
      lcdOff := fun hf => absurd hf hoff }

/-- The start of a scan locks OAM and empties the FIFOs (R213, R1320). -/
theorem State.MidDot.oamScanBegin {s : State} (h : s.MidDot) (hm : s.ppu.mode = .oamScan) : s.oamScanBegin.MidDot :=
  ⟨{ h.ppu with
      bgFifo := Nat.zero_le _
      objFifo := Nat.zero_le _
      discard := Nat.le_of_lt_succ (Nat.mod_lt _ (by decide))
      scanDone := fun _ => hm
      column := fun _ => Nat.zero_lt_succ _
      oamLock := rfl }, h.fb⟩

theorem State.MidDot.oamPhase {s : State} (h : s.MidDot) (hm : s.ppu.mode = .oamScan) : s.oamPhase.MidDot := by
  unfold State.oamPhase
  split
  · rename_i hs
    exact h.oamScanEnd hm hs
  · exact h.oamScanBegin hm

/-- The end of a visible line: LY goes on, into V-blank from 143 (R1324). -/
theorem State.MidDot.hBlankPhase {s : State} (h : s.MidDot) (hm : s.ppu.mode = .hBlank) (hon : s.ppu.lcdWasOn = true) :
    s.hBlankPhase.MidDot := by
  have hly : s.lcd.ly.toNat < 144 := h.ppu.ly_visible (by simp [hm])
  have hscan : s.ppu.scanDone = false := h.ppu.scanDone_false (by simp [hm])
  have hoff : s.ppu.lcdWasOn ≠ false := by simp [hon]
  unfold State.hBlankPhase
  simp only
  split
  · rename_i hend
    have hnext : 144 ≤ (s.lcd.ly + 1).toNat ∧ (s.lcd.ly + 1).toNat ≤ 153 := by
      rw [hend]
      decide
    exact ⟨Ppu.Idle.inv ⟨hscan, nofun, rfl, rfl, rfl⟩ rfl (ly_vBlank := fun _ => hnext)
      (ly_visible := fun hv => absurd rfl hv) h.ppu.bgFifo h.ppu.objFifo h.ppu.discard
      (lcdOff := fun hf => absurd hf hoff), h.fb⟩
  · rename_i hend
    have hnext : (s.lcd.ly + 1).toNat < 144 := by bv_omega
    exact ⟨Ppu.Idle.inv ⟨hscan, nofun, rfl, rfl, rfl⟩ rfl (ly_vBlank := nofun) (ly_visible := fun _ => hnext)
      h.ppu.bgFifo h.ppu.objFifo h.ppu.discard (lcdOff := fun hf => absurd hf hoff), h.fb⟩

/-- The end of a V-blank line: LY goes on, and wraps to a visible line from 153 (R1325). -/
theorem State.MidDot.vBlankPhase {s : State} (h : s.MidDot) (hm : s.ppu.mode = .vBlank) : s.vBlankPhase.MidDot := by
  obtain ⟨hlo, hhi⟩ := h.ppu.ly_vBlank hm
  obtain ⟨hscan, -, hoam, hvram, hpal⟩ := h.ppu.idle (.inr hm)
  have hoff : s.ppu.lcdWasOn ≠ false := by simp [h.ppu.lcdWasOn_true (by simp [hm])]
  unfold State.vBlankPhase
  simp only
  split
  · exact ⟨Ppu.Idle.inv ⟨hscan, nofun, hoam, hvram, hpal⟩ rfl (ly_vBlank := nofun)
      (ly_visible := fun _ => Nat.zero_lt_succ _) h.ppu.bgFifo h.ppu.objFifo h.ppu.discard
      (lcdOff := fun hf => absurd hf hoff), h.fb⟩
  · rename_i hend
    have hnext : 144 ≤ (s.lcd.ly + 1).toNat ∧ (s.lcd.ly + 1).toNat ≤ 153 := by bv_omega
    exact ⟨{ h.ppu with ly_vBlank := fun _ => hnext, ly_visible := fun hv => absurd hm hv }, h.fb⟩

/-! ### The LCD turned off and on -/

theorem State.MidDot.lcdTurnOff {s : State} (h : s.MidDot) : s.lcdTurnOff.MidDot :=
  ⟨Ppu.Idle.inv ⟨rfl, nofun, rfl, rfl, rfl⟩ rfl (ly_vBlank := nofun) (ly_visible := fun _ => Nat.zero_lt_succ _)
    h.ppu.bgFifo h.ppu.objFifo h.ppu.discard (lcdOff := fun _ => rfl), h.fb⟩

/-- While the LCD was off the mode was H-blank, so every lock is open already (R1330, R1331). -/
theorem State.MidDot.lcdOnDot {s : State} (h : s.MidDot) (hoff : s.ppu.lcdWasOn = false) : s.lcdOnDot.MidDot := by
  obtain ⟨-, -, hoam, hvram, hpal⟩ := h.ppu.idle (.inl (h.ppu.lcdOff hoff))
  exact ⟨Ppu.Idle.inv ⟨rfl, nofun, hoam, hvram, hpal⟩ rfl (ly_vBlank := nofun)
    (ly_visible := fun _ => Nat.zero_lt_succ _) h.ppu.bgFifo h.ppu.objFifo h.ppu.discard (lcdOff := nofun), h.fb⟩

/-! ### A dot -/

theorem State.MidDot.runDot {s : State} (h : s.MidDot) (hon : s.ppu.lcdWasOn = true) : s.runDot.DotDone := by
  unfold State.runDot
  split
  · exact (h.withCounters _ _).updateLcdRegs
  · split
    next hm => exact ((h.oamPhase hm).withCounters _ _).updateLcdRegs
    next hm => exact ((h.drawDot hm).withCounters _ _).updateLcdRegs
    next hm => exact ((h.hBlankPhase hm hon).withCounters _ _).updateLcdRegs
    next hm => exact ((h.vBlankPhase hm).withCounters _ _).updateLcdRegs

theorem State.MidDot.ppuDot {s : State} (h : s.MidDot) : s.ppuDot.DotDone := by
  unfold State.ppuDot
  split
  · unfold State.lcdOffDot
    split
    · exact h.lcdTurnOff.updateLcdRegs
    · exact h.updateLcdRegs
  · split
    next hoff => exact (h.lcdOnDot (by simpa using hoff)).runDot rfl
    next hon => exact h.runDot (by simpa using hon)

/-! ### Each part of a step keeps the invariant -/

theorem State.Inv.ppuDot {s : State} (h : s.Inv) : s.ppuDot.Inv := by
  obtain ⟨hppu, hfb⟩ := h.midDot.ppuDot
  obtain ⟨honly, -⟩ := s.ppuDot_only
  generalize s.ppuDot = t at hppu hfb honly
  rw [honly]
  exact { h with ppu := hppu, fb := hfb }

/-- A DMA dot: idle; else the fourth dot of a byte, which copies it, or another, which is counted (R1402). -/
theorem State.dmaDot_cases (s : State) :
    s.dmaDot = s ∨
      (s.dma.active = true ∧
        (s.dmaDot.dma = { s.dma with sub := 0, index := s.dma.index + 1, active := !(s.dma.index + 1 == 160) } ∨
          (s.dma.sub + 1 ≠ 4 ∧ s.dmaDot.dma = { s.dma with sub := s.dma.sub + 1 }))) := by
  unfold State.dmaDot
  split
  · exact .inl rfl
  · rename_i hact
    refine .inr ⟨by simpa using hact, ?_⟩
    split
    · left
      unfold State.dmaCopy State.dmaRead
      split <;> rfl
    · rename_i hsub
      exact .inr ⟨hsub, rfl⟩

theorem State.Inv.dmaDot {s : State} (h : s.Inv) : s.dmaDot.Inv := by
  obtain heq | ⟨hact, hdma⟩ := s.dmaDot_cases
  · rwa [heq]
  · have hindex : s.dma.index < 160 := h.dmaActive hact
    have hsub := h.dmaSub
    have hmem : s.dmaDot.mem.wf := State.dmaDot_wf hindex h.mem
    have honly := s.dmaDot_only
    generalize s.dmaDot = t at hdma hmem honly
    rw [honly]
    obtain hcopy | ⟨hwait, hcount⟩ := hdma
    · rw [hcopy]
      refine { h with mem := hmem, dmaIndex := hindex, dmaActive := fun hrun => ?_, dmaSub := Nat.zero_lt_succ _ }
      simp only [Bool.not_eq_true', beq_eq_false_iff_ne] at hrun
      exact Nat.lt_of_le_of_ne hindex hrun
    · rw [hcount]
      exact { h with mem := hmem, dmaSub := Nat.lt_of_le_of_ne hsub hwait }

/-- A tick never lengthens a transfer (R1463). -/
theorem Serial.tick_left_le (u : Serial) : u.tick.1.left ≤ u.left := by
  unfold Serial.tick
  split
  · exact le_refl _
  · split
    · exact Nat.zero_le _
    · exact Nat.sub_le _ _

theorem State.tickTimers_left_le (s : State) : s.tickTimers.serial.left ≤ s.serial.left := by
  have htimer : s.tickTimer.serial = s.serial := by
    unfold State.tickTimer
    split <;> simp
  rw [← htimer]
  unfold State.tickTimers State.tickSerial
  split
  · simpa using Serial.tick_left_le _
  · simp

theorem State.Inv.tickTimers {s : State} (h : s.Inv) : s.tickTimers.Inv := by
  have hleft := s.tickTimers_left_le
  obtain ⟨honly, -⟩ := s.tickTimers_only
  generalize s.tickTimers = t at hleft honly
  rw [honly]
  exact { h with serial := hleft.trans h.serial }

/-- All of a step's device time (R1213). -/
theorem State.Inv.runDevices {s : State} (h : s.Inv) (c : Nat) : (s.runDevices c).Inv := by
  have htimers := repeatTimes_induct (P := State.Inv) (fun _ => State.Inv.tickTimers) c h
  have hppu := repeatTimes_induct (P := State.Inv) (fun _ => State.Inv.ppuDot) (4 * c) htimers
  exact repeatTimes_induct (P := State.Inv) (fun _ => State.Inv.dmaDot) (4 * c) hppu

/-- The host's input changes its queue, the joypad, a fitted device's own state and IF, and nothing else (R1472). -/
theorem State.takeInput_only (s : State) :
    s.takeInput =
      { s with
        hostInputs := s.takeInput.hostInputs
        joypad := s.takeInput.joypad
        others := s.takeInput.others
        intFlag := s.takeInput.intFlag } := by
  unfold State.takeInput
  split
  · rfl
  · unfold State.press State.setJoypad State.setOther State.requestIf
    split <;> split <;> rfl

theorem State.Inv.takeInput {s : State} (h : s.Inv) : s.takeInput.Inv := by
  rw [s.takeInput_only]
  exact { h with }

/-- What the CPU does in a step keeps the invariant: a bus write can start a DMA, and reaches the PPU by no more than
LCD registers the invariant does not name. -/
theorem State.Inv.cpuKeeps {s t : State} (h : s.Inv) (k : CpuKeeps s t) : t.Inv := by
  have hdma : t.dma.index ≤ 160 ∧ (t.dma.active = true → t.dma.index < 160) ∧ t.dma.sub < 4 := by
    obtain heq | ⟨-, hindex, hsub⟩ := k.dma
    · rw [heq]
      exact ⟨h.dmaIndex, h.dmaActive, h.dmaSub⟩
    · rw [hindex, hsub]
      exact ⟨Nat.zero_le _, fun _ => Nat.zero_lt_succ _, Nat.zero_lt_succ _⟩
  obtain ⟨hindex, hactive, hsub⟩ := hdma
  refine
    { mem := k.mem h.mem, fb := k.fb ▸ h.fb, f := k.f h.f, imeDelay := k.imeDelay h.imeDelay, haltSkip := fun hs => ?_,
      dmaIndex := hindex, dmaActive := hactive, dmaSub := hsub, serial := k.serial h.serial, ppu := ?_ }
  · rw [k.params]
    exact (k.haltSkip hs).elim h.haltSkip id
  · rw [k.ppu]
    exact { h.ppu with
      ly_vBlank := k.ly ▸ h.ppu.ly_vBlank
      ly_visible := k.ly ▸ h.ppu.ly_visible
      statMode := k.statMode.trans h.ppu.statMode }

/-- Waking is a change of `halted` alone (R1207). -/
theorem cpuKeeps_wake (s : State) : CpuKeeps s s.wake := .ofCtl rfl id .inl

/-- Fetch, execution and the device time of the instruction, or its fault with none (R1208, R1213). -/
theorem State.Inv.runInstr {s t : State} (h : s.Inv) (ht : s.runInstr = .next t) : t.Inv := by
  obtain ⟨u, hexec, hkeeps⟩ := exec_keeps s.fetchDecode.1 s.fetchDecode.2
  have hu : u.Inv := (h.cpuKeeps (cpuKeeps_fetchDecode s)).cpuKeeps hkeeps
  rw [State.runInstr, hexec] at ht
  unfold State.finish at ht
  simp only at ht
  split at ht
  · cases ht
    exact hu
  · cases ht
    exact (hu.cpuKeeps (cpuKeeps_applyEi u)).runDevices _

/-- Settles O3, by the cases of a system step: a faulted machine stays as it is; else the host's input, and then an
interrupt entry, an idle cycle or one instruction, each with its device time. -/
theorem stepKeepsInvariant : Obligations.StepKeepsInvariant := by
  unfold Obligations.StepKeepsInvariant
  intro s t h ht
  unfold step at ht
  by_cases hfault : s.ctl.fault = none
  · have hin : s.takeInput.Inv := h.takeInput
    cases hdue : s.takeInput.interruptDue with
    | some i =>
      cases (State.systemStep_interrupt hfault hdue).symm.trans ht
      exact (hin.cpuKeeps (cpuKeeps_dispatch _ i)).runDevices 5
    | none =>
      cases hidle : s.takeInput.idles with
      | true =>
        cases (State.systemStep_idle hfault hdue hidle).symm.trans ht
        exact (hin.cpuKeeps (cpuKeeps_applyEi _)).runDevices 1
      | false =>
        rw [State.systemStep_runs hfault hdue hidle] at ht
        exact (hin.cpuKeeps (cpuKeeps_wake _)).runInstr ht
  · cases (State.systemStep_faulted hfault).symm.trans ht
    exact h

/-! ### Reset -/

/-- Settles O2: State.reset is closed data, so each field of the invariant is a closed fact. -/
theorem resetInvariant : Obligations.ResetInvariant := by
  unfold Obligations.ResetInvariant
  refine
    { mem := Memory.wf_reset, fb := by decide, f := by decide, imeDelay := by decide, haltSkip := by decide,
      dmaIndex := by decide, dmaActive := by decide, dmaSub := by decide, serial := by decide, ppu := ?_ }
  constructor <;> decide

end Sys2Proof.Machine
end

section
/-!
PROOFS. The I/O registers (spec/10_state.md R114, R117 to R122, spec/20_memory.md R209): which address reaches which
register, and with that what the block's own registers read and store, and what a device that replaces a default one is
asked (R218, R1460).
-/

namespace Sys2Proof.Machine

open Sys2Proof

/-! ### The address of a register -/

/-- The address of an I/O register (R209, R117). -/
def IoReg.addr (r : IoReg) : Word :=
  match r with
  | .p1 => 0xFF00
  | .sb => 0xFF01
  | .sc => 0xFF02
  | .div => 0xFF04
  | .tima => 0xFF05
  | .tma => 0xFF06
  | .tac => 0xFF07
  | .intFlag => 0xFF0F
  | .lcdc => 0xFF40
  | .stat => 0xFF41
  | .scy => 0xFF42
  | .scx => 0xFF43
  | .ly => 0xFF44
  | .lyc => 0xFF45
  | .dma => 0xFF46
  | .bgp => 0xFF47
  | .obp0 => 0xFF48
  | .obp1 => 0xFF49
  | .wy => 0xFF4A
  | .wx => 0xFF4B

@[simp] theorem State.target_addr (s : State) (r : IoReg) : s.target r.addr = .io r := by
  unfold State.target
  generalize s.params.extRamPresent = e
  revert e
  cases r <;> decide

/-- The map of the I/O page lists each register at its address. -/
theorem addr_of_ioMap {b : Byte} {r : IoReg} (h : ioMap.lookup b = some r) : wordOf 0xFF b = r.addr := by
  revert r
  revert b
  decide

/-- Only the I/O page holds I/O registers (R201): every other range of the map names another kind of target. -/
theorem busTarget_io_page {e : Bool} {a : Word} {r : IoReg} (h : busTarget e a = .io r) :
    0xFF00 ≤ a.toNat ∧ a.toNat < 0xFF80 := by
  simp only [busTarget] at h
  split_ifs at h
  exact ⟨by omega, by omega⟩

/-- A register is reached at its own address alone. -/
theorem State.addr_of_target {s : State} {a : Word} {r : IoReg} (h : s.target a = .io r) : a = r.addr := by
  obtain ⟨hlo, hhi⟩ := busTarget_io_page h
  have hpage : hiByte a = 0xFF := by
    apply BitVec.eq_of_toNat_eq
    rw [hiByte_toNat]
    simp
    omega
  rw [State.target, busTarget_io hlo hhi] at h
  split at h
  next q hq =>
    cases h
    rw [← addr_of_ioMap hq, ← hpage, wordOf_bytes]
  next => cases h

/-! ### The block's own registers -/

/-- A register no device owns is the block's own, whatever is fitted. -/
theorem State.port_of_unowned (s : State) {r : IoReg} (h : r.port = none) : s.port r = none := by
  unfold State.port
  rw [h]

theorem State.memRead_own (s : State) {r : IoReg} (h : r.port = none) : s.memRead r.addr = s.readOwn r := by
  simp [State.memRead, State.readTarget, State.readIo, s.port_of_unowned h]

theorem State.memWrite_own (s : State) {r : IoReg} (v : Byte) (h : r.port = none) :
    s.memWrite r.addr v = s.writeOwn r v := by
  simp [State.memWrite, State.writeTarget, State.writeIo, s.port_of_unowned h]

/-- IF reads its unused bits as 1 (R114). -/
theorem State.readIf_eq (s : State) : s.readIf = 0b111#3 ++ s.intFlag := by
  unfold State.readIf
  generalize s.intFlag = x
  revert x
  decide

/-- The bytes of STAT: bit 7 reads 1 (R119). -/
theorem Lcd.stat_eq (l : Lcd) :
    l.stat = 0b1#1 ++ l.statEnable ++ BitVec.ofBool l.statCoinc ++ l.statMode.bits := by
  unfold Lcd.stat
  generalize l.statEnable = e
  generalize l.statCoinc = c
  generalize l.statMode.bits = m
  revert e c m
  decide

/-- The registers of the LCD bank that keep the whole byte written and no lock hides (R117). -/
def IoReg.plainLcd : List IoReg := [.lcdc, .scy, .scx, .lyc, .wy, .wx]

theorem State.memRead_memWrite_plainLcd (s : State) {r : IoReg} (v : Byte) (h : r ∈ IoReg.plainLcd) :
    (s.memWrite r.addr v).memRead r.addr = v := by
  have hport : ∀ r ∈ IoReg.plainLcd, r.port = none := by decide
  rw [s.memWrite_own v (hport r h), State.memRead_own _ (hport r h)]
  simp only [IoReg.plainLcd, List.mem_cons, List.not_mem_nil, or_false] at h
  rcases h with rfl | rfl | rfl | rfl | rfl | rfl <;> rfl

/-! ### What a read does -/

/-- A read at no register of a device that replaces a default one changes nothing (R218). -/
theorem State.afterRead_of_default (s : State) (a : Word) (hj : a = 0xFF00 → s.params.joypadDevice = .default)
    (hs : a = 0xFF01 ∨ a = 0xFF02 → s.params.serialDevice = .default)
    (ht : 0xFF04 ≤ a.toNat ∧ a.toNat ≤ 0xFF07 → s.params.timerDevice = .default) : s.afterRead a = s := by
  refine State.afterRead_eq fun r hr => ?_
  have ha : a = r.addr := State.addr_of_target hr
  have hdefault : ∀ d n, r.port = some (d, n) → s.params.device d = .default := by
    intro d n hp
    subst ha
    cases r <;> cases hp
    case p1 => exact hj rfl
    case sb | sc => exact hs (by decide)
    case div | tima | tma | tac => exact ht (by decide)
  unfold State.port
  split
  · rfl
  next d n hp => rw [hdefault d n hp]

/-! ### A device that replaces a default one -/

/-- The register at a place of a device. -/
def ownedReg (d : DeviceKind) (k : Nat) : IoReg :=
  match d, k with
  | .timer, 0 => .div
  | .timer, 1 => .tima
  | .timer, 2 => .tma
  | .timer, _ => .tac
  | .joypad, _ => .p1
  | .serial, 0 => .sb
  | .serial, _ => .sc

/-- How many registers a device owns (R209). -/
def placesOf (d : DeviceKind) : Nat :=
  match d with
  | .timer => 4
  | .joypad => 1
  | .serial => 2

/-- The address of the register at a place of a device: a device's registers follow one another (R209). -/
def ownedAddr (d : DeviceKind) (k : Nat) : Word :=
  match d with
  | .timer => 0xFF04 + BitVec.ofNat 16 k
  | .joypad => 0xFF00
  | .serial => 0xFF01 + BitVec.ofNat 16 k

theorem ownedReg_addr {d : DeviceKind} {k : Nat} (h : k < placesOf d) : (ownedReg d k).addr = ownedAddr d k := by
  cases d <;> simp only [placesOf] at h <;> interval_cases k <;> rfl

theorem ownedReg_port {d : DeviceKind} {k : Nat} (h : k < placesOf d) : (ownedReg d k).port = some (d, k) := by
  cases d <;> simp only [placesOf] at h <;> interval_cases k <;> rfl

section
variable {s : State} {d : DeviceKind} {m k : Nat} (hd : s.params.device d = .other m) (hk : k < placesOf d)
include hd hk

theorem State.port_ownedReg : s.port (ownedReg d k) = some ⟨d, m, k⟩ := by
  simp [State.port, ownedReg_port hk, hd]

theorem State.memRead_ownedReg : s.memRead (ownedReg d k).addr = Config.deviceRead d m (s.others.of d) k := by
  simp [State.memRead, State.readTarget, State.readIo, State.port_ownedReg hd hk]

theorem State.afterRead_ownedReg :
    s.afterRead (ownedReg d k).addr = s.setOther d (Config.deviceReadEffect d m (s.others.of d) k) := by
  simp [State.afterRead, State.afterReadTarget, State.afterReadIo, State.port_ownedReg hd hk]

theorem State.memWrite_ownedReg (v : Byte) :
    s.memWrite (ownedReg d k).addr v = s.setOther d (Config.deviceWrite d m (s.others.of d) k v) := by
  simp [State.memWrite, State.writeTarget, State.writeIo, State.port_ownedReg hd hk]

end

/-- The act of a fitted device: its own state, and its own bit of IF when it requests. -/
theorem State.setOther_eq (s : State) (d : DeviceKind) (u : Nat × Bool) :
    s.setOther d u =
      { s with
        others := s.others.set d u.1
        intFlag := if u.2 then s.intFlag ||| (IntSource.ofDevice d).bit else s.intFlag } := by
  obtain ⟨n, asked⟩ := u
  cases asked <;> rfl

theorem State.tickTimer_other (s : State) {m : Nat} (hd : s.params.timerDevice = .other m) :
    s.tickTimer = s.setOther .timer (Config.deviceTick .timer m s.others.timer) := by
  rw [State.tickTimer, hd]

theorem State.tickSerial_other (s : State) {m : Nat} (hd : s.params.serialDevice = .other m) :
    s.tickSerial = s.setOther .serial (Config.deviceTick .serial m s.others.serial) := by
  rw [State.tickSerial, hd]

theorem State.press_other (s : State) {m : Nat} (hd : s.params.joypadDevice = .other m) (p : Buttons) :
    s.press p = s.setOther .joypad (Config.joypadInput m s.others.joypad p) := by
  rw [State.press, hd]

theorem Launch.reset_others (l : Launch) {d : DeviceKind} {m : Nat} (hd : l.params.device d = .other m) :
    l.reset.others.of d = Config.deviceReset d m := by
  have hof : l.reset.others.of d = resetOther l.params d := by cases d <;> rfl
  rw [hof, resetOther, hd]

/-- Settles O48: the block's own registers, what a read changes, and the acts of a device that replaces a default one,
each by the lemma of its part. -/
theorem ioRegisters : Obligations.IoRegisters := by
  unfold Obligations.IoRegisters
  intro s v
  refine ⟨⟨?_, ?_⟩, ⟨?_, ?_⟩, ⟨?_, ?_⟩, fun a ha => ?_, fun a => ⟨s.afterRead_only a, s.afterRead_of_default a⟩,
    fun d m hd => ?_⟩
  · exact (s.memRead_own (r := .intFlag) rfl).trans s.readIf_eq
  · exact s.memWrite_own (r := .intFlag) v rfl
  · exact (s.memRead_own (r := .stat) rfl).trans s.lcd.stat_eq
  · exact s.memWrite_own (r := .stat) v rfl
  · exact s.memRead_own (r := .ly) rfl
  · exact s.memWrite_own (r := .ly) v rfl
  · obtain ⟨r, hr, rfl⟩ : ∃ r ∈ IoReg.plainLcd, r.addr = a := List.mem_map.1 ha
    exact s.memRead_memWrite_plainLcd v hr
  · intro own bit acted
    have hacted (u : Nat × Bool) : s.setOther d u = acted u := by
      rw [s.setOther_eq]
      cases d <;> rfl
    refine ⟨fun k hk => ?_, ?_, ?_, ?_, fun l hl => l.reset_others (hl ▸ hd)⟩
    · have hplace : k < placesOf d := by cases d <;> exact hk
      intro a
      have ha : a = (ownedReg d k).addr := by
        rw [ownedReg_addr hplace]
        cases d <;> rfl
      rw [ha, ← hacted, ← hacted]
      exact ⟨State.memRead_ownedReg hd hplace, State.afterRead_ownedReg hd hplace, State.memWrite_ownedReg hd hplace v⟩
    · rintro rfl
      exact (s.tickTimer_other hd).trans (hacted _)
    · rintro rfl
      exact (s.tickSerial_other hd).trans (hacted _)
    · rintro rfl p
      exact (s.press_other hd p).trans (hacted _)

end Sys2Proof.Machine
end

section
/-!
PROOFS. The bus map (spec/20_memory.md R201 to R213): each range of the address space reaches one kind of target, and
what a read gives and a write does is said once for each kind, with the PPU's locks for VRAM, OAM and the palettes.
-/

namespace Sys2Proof.Machine

open Sys2Proof

/-! ### What has no lock -/

section
variable {s : State} {a : Word}

theorem State.memAccess_rom {k : Nat} (v : Byte) (h : s.target a = .rom k) :
    s.memRead a = s.mem.read k ∧ s.memWrite a v = s := by
  simp [State.memRead, State.memWrite, h, State.readTarget, State.writeTarget]

theorem State.memAccess_openBus (v : Byte) (h : s.target a = .openBus) : s.memRead a = 0xFF ∧ s.memWrite a v = s := by
  simp [State.memRead, State.memWrite, h, State.readTarget, State.writeTarget]

theorem State.memAccess_ie (v : Byte) (h : s.target a = .ie) :
    s.memRead a = s.intEnable ∧ s.memWrite a v = { s with intEnable := v } := by
  simp [State.memRead, State.memWrite, h, State.readTarget, State.writeTarget]

/-- An access sees of its address only the target it reaches. -/
theorem State.memAccess_congr {b : Word} (v : Byte) (h : s.target a = s.target b) :
    s.memRead a = s.memRead b ∧ s.memWrite a v = s.memWrite b v := by
  simp [State.memRead, State.memWrite, h]

/-- Echo RAM reaches the work RAM 0x2000 below it (R206). -/
theorem State.target_echo (h : 0xE000 ≤ a.toNat) (h' : a.toNat < 0xFE00) : s.target a = s.target (a - 0x2000) := by
  have hsub : (a - 0x2000).toNat = a.toNat - 0x2000 := BitVec.toNat_sub_of_le (by bv_omega)
  rw [State.target, State.target, busTarget_echo h h', busTarget_wram (by omega) (by omega), hsub]

/-- An address of the I/O page where no register is reaches nothing (R209). -/
theorem State.target_unowned (h : 0xFF00 ≤ a.toNat) (h' : a.toNat < 0xFF80) (hown : ∀ r : IoReg, a ≠ r.addr) :
    s.target a = .openBus := by
  have hio : ∀ r, s.target a ≠ .io r := fun r hr => hown r (State.addr_of_target hr)
  unfold State.target at hio ⊢
  rw [busTarget_io h h'] at hio ⊢
  cases hr : ioMap.lookup (loByte a) with
  | none => rfl
  | some r =>
    rw [hr] at hio
    exact absurd rfl (hio r)

/-- The gaps of the I/O page: the addresses that R209 and R117 give no owner. -/
def IoGap (a : Word) : Prop :=
  a = 0xFF03 ∨ (0xFF08 ≤ a.toNat ∧ a.toNat ≤ 0xFF0E) ∨ (0xFF10 ≤ a.toNat ∧ a.toNat ≤ 0xFF3F) ∨
    (0xFF4C ≤ a.toNat ∧ a.toNat ≤ 0xFF7F)

theorem IoGap.ne_addr (h : IoGap a) (r : IoReg) : a ≠ r.addr := by
  rintro rfl
  unfold IoGap at h
  revert h
  cases r <;> decide

theorem IoGap.page (h : IoGap a) : 0xFF00 ≤ a.toNat ∧ a.toNat < 0xFF80 := by
  rcases h with rfl | h | h | h
  · decide
  all_goals omega

end

/-- Settles O46, range by range: the target the range reaches, and the access of that target. -/
theorem busMap : Obligations.BusMap := by
  unfold Obligations.BusMap
  intro s a v
  refine ⟨fun h => ?_, fun h h' => ⟨fun hext => ?_, fun hext => ?_⟩, fun h h' => ?_, fun h h' => ?_, fun h h' => ?_,
    fun h => ?_, fun h h' => ?_, fun h => ?_⟩
  · exact State.memAccess_rom v (busTarget_rom h)
  · have ht : s.target a = .ram a.toNat := by rw [State.target, busTarget_ext h h', hext, if_pos rfl]
    exact ⟨State.memRead_ram ht, State.memRead_memWrite_ram v ht⟩
  · have ht : s.target a = .openBus := by rw [State.target, busTarget_ext h h', hext, if_neg Bool.false_ne_true]
    exact State.memAccess_openBus v ht
  · exact State.memRead_memWrite_ram v (busTarget_wram h h')
  · exact State.memAccess_congr v (State.target_echo h h')
  · exact State.memAccess_openBus v (busTarget_unusable h h')
  · have hgap : IoGap a := h
    obtain ⟨hlo, hhi⟩ := hgap.page
    exact State.memAccess_openBus v (State.target_unowned hlo hhi hgap.ne_addr)
  · exact State.memRead_memWrite_ram v (busTarget_hram h h')
  · subst h
    exact State.memAccess_ie v (busTarget_ie _)

/-! ### The PPU's locks -/

section
variable {s : State} {a : Word}

theorem State.memAccess_vram_locked {k : Nat} (v : Byte) (h : s.target a = .vram k) (hlock : s.ppu.vramLock = true) :
    s.memRead a = 0xFF ∧ s.memWrite a v = s := by
  simp [State.memRead, State.memWrite, h, State.readTarget, State.writeTarget, hlock]

theorem State.memAccess_oam_locked {k : Nat} (v : Byte) (h : s.target a = .oam k) (hlock : s.ppu.oamLock = true) :
    s.memRead a = 0xFF ∧ s.memWrite a v = s := by
  simp [State.memRead, State.memWrite, h, State.readTarget, State.writeTarget, hlock]

theorem State.memRead_vram {k : Nat} (h : s.target a = .vram k) (hopen : s.ppu.vramLock = false) :
    s.memRead a = s.mem.read k := by
  simp [State.memRead, h, State.readTarget, hopen]

theorem State.memRead_oam {k : Nat} (h : s.target a = .oam k) (hopen : s.ppu.oamLock = false) :
    s.memRead a = s.mem.read k := by
  simp [State.memRead, h, State.readTarget, hopen]

theorem State.memRead_memWrite_vram {k : Nat} (v : Byte) (h : s.target a = .vram k) (hopen : s.ppu.vramLock = false) :
    (s.memWrite a v).memRead a = v := by
  rw [State.memRead_vram (k := k) (by simpa using h) (by simpa using hopen)]
  simp [State.memWrite, h, State.writeTarget, hopen, State.setCell]

theorem State.memRead_memWrite_oam {k : Nat} (v : Byte) (h : s.target a = .oam k) (hopen : s.ppu.oamLock = false) :
    (s.memWrite a v).memRead a = v := by
  rw [State.memRead_oam (k := k) (by simpa using h) (by simpa using hopen)]
  simp [State.memWrite, h, State.writeTarget, hopen, State.setCell]

/-- The palette registers, which share one lock (R213). -/
def IoReg.palettes : List IoReg := [.bgp, .obp0, .obp1]

theorem IoReg.palettes_port : ∀ r ∈ IoReg.palettes, r.port = none := by decide

theorem IoReg.exists_palette (h : 0xFF47 ≤ a.toNat) (h' : a.toNat ≤ 0xFF49) : ∃ r ∈ IoReg.palettes, r.addr = a := by
  obtain h | h | h : a = 0xFF47 ∨ a = 0xFF48 ∨ a = 0xFF49 := by bv_omega
  · exact ⟨.bgp, by decide, h.symm⟩
  · exact ⟨.obp0, by decide, h.symm⟩
  · exact ⟨.obp1, by decide, h.symm⟩

end

section
variable {s : State} {r : IoReg} (hr : r ∈ IoReg.palettes) (v : Byte)
include hr

theorem State.memAccess_palette_locked (hlock : s.ppu.palLock = true) :
    s.memRead r.addr = 0xFF ∧ s.memWrite r.addr v = s := by
  rw [s.memRead_own (IoReg.palettes_port r hr), s.memWrite_own v (IoReg.palettes_port r hr)]
  simp only [IoReg.palettes, List.mem_cons, List.not_mem_nil, or_false] at hr
  rcases hr with rfl | rfl | rfl <;> simp [State.readOwn, State.writeOwn, State.setPalette, hlock]

theorem State.memRead_memWrite_palette (hopen : s.ppu.palLock = false) :
    (s.memWrite r.addr v).memRead r.addr = v := by
  rw [s.memWrite_own v (IoReg.palettes_port r hr), State.memRead_own _ (IoReg.palettes_port r hr)]
  simp only [IoReg.palettes, List.mem_cons, List.not_mem_nil, or_false] at hr
  rcases hr with rfl | rfl | rfl <;> simp [State.readOwn, State.writeOwn, State.setPalette, State.setLcd, hopen]

end

/-- Settles O47, for each of the three locks, held and open. -/
theorem ppuLocks : Obligations.PpuLocks := by
  unfold Obligations.PpuLocks
  intro s a v
  refine ⟨fun h h' => ?_, fun h h' => ?_, fun h h' => ?_⟩
  · have ht : s.target a = .vram a.toNat := busTarget_vram h h'
    exact ⟨State.memAccess_vram_locked v ht,
      fun hopen => ⟨State.memRead_vram ht hopen, State.memRead_memWrite_vram v ht hopen⟩⟩
  · have ht : s.target a = .oam a.toNat := busTarget_oam h h'
    exact ⟨State.memAccess_oam_locked v ht,
      fun hopen => ⟨State.memRead_oam ht hopen, State.memRead_memWrite_oam v ht hopen⟩⟩
  · obtain ⟨r, hr, rfl⟩ := IoReg.exists_palette h h'
    exact ⟨State.memAccess_palette_locked hr v, State.memRead_memWrite_palette hr v⟩

end Sys2Proof.Machine
end

section
/-!
PROOFS. The decoder and the encoder (spec/30_encoding.md R300 to R313): what the decoder answers for each format of a
first byte, that it and the encoder are inverse to each other up to the second spelling of the row of 0xCB, and from
that the fields of blocks 1 and 2 (R306, R307) and the undefined opcodes (R309).
-/

namespace Sys2Proof

open Sys2Proof.Machine

/-! ### What the decoder answers for each format -/

section
variable {op : Byte}

theorem decode_op8 {i : Instr} (h : formOf op = .op8 i) (rest : List Byte) : decode (op :: rest) = .ok (i, rest) := by
  simp [decode, h]

theorem decode_imm8 {k : Byte → Instr} (h : formOf op = .imm8 k) (n : Byte) (rest : List Byte) :
    decode (op :: n :: rest) = .ok (k n, rest) := by
  simp [decode, h]

theorem decode_imm16 {k : Word → Instr} (h : formOf op = .imm16 k) (lo hi : Byte) (rest : List Byte) :
    decode (op :: lo :: hi :: rest) = .ok (k (wordOf hi lo), rest) := by
  simp [decode, h]

theorem decode_cb (h : formOf op = .cb) (op2 : Byte) (rest : List Byte) :
    decode (op :: op2 :: rest) = .ok (cbOf op2, rest) := by
  simp [decode, h]

/-- The two bytes of a word, low byte first, are read as the word (R302). -/
theorem decode_imm16_word {k : Word → Instr} (h : formOf op = .imm16 k) (w : Word) (rest : List Byte) :
    decode (op :: loByte w :: hiByte w :: rest) = .ok (k w, rest) := by
  simp [decode_imm16 h]

/-- What the decoder answers is made by the first byte's format from the bytes that follow it (R310, R311). -/
theorem decode_cons_cases {tail rest : List Byte} {i : Instr} (h : decode (op :: tail) = .ok (i, rest)) :
    (formOf op = .op8 i ∧ tail = rest) ∨
    (∃ k n, formOf op = .imm8 k ∧ i = k n ∧ tail = n :: rest) ∨
    (∃ k lo hi, formOf op = .imm16 k ∧ i = k (wordOf hi lo) ∧ tail = lo :: hi :: rest) ∨
    (∃ op2, formOf op = .cb ∧ i = cbOf op2 ∧ tail = op2 :: rest) := by
  cases hf : formOf op with
  | op8 j =>
    cases (decode_op8 hf tail).symm.trans h
    exact .inl ⟨rfl, rfl⟩
  | imm8 k =>
    rcases tail with _ | ⟨n, tail⟩
    · simp [decode, hf] at h
    · cases (decode_imm8 hf n tail).symm.trans h
      exact .inr (.inl ⟨k, n, rfl, rfl, rfl⟩)
  | imm16 k =>
    rcases tail with _ | ⟨lo, _ | ⟨hi, tail⟩⟩
    · simp [decode, hf] at h
    · simp [decode, hf] at h
    · cases (decode_imm16 hf lo hi tail).symm.trans h
      exact .inr (.inr (.inl ⟨k, lo, hi, rfl, rfl, rfl⟩))
  | cb =>
    rcases tail with _ | ⟨op2, tail⟩
    · simp [decode, hf] at h
    · cases (decode_cb hf op2 tail).symm.trans h
      exact .inr (.inr (.inr ⟨op2, rfl, rfl, rfl⟩))

end

/-! ### Decoding an encoding -/

/-- The row of 0xCB itself is the only second spelling. -/
theorem canonical_of_wellFormed {i : Instr} (h : i.wellFormed = true) : i.canonical = i := by
  unfold Instr.canonical
  split
  · cases h
  · rfl

/-- Row by row: the plain map has the row's format at its first byte, and the CB map the row at its second. -/
theorem decode_encode (i : Instr) (rest : List Byte) : decode (encode i ++ rest) = .ok (i.canonical, rest) := by
  cases i with
  | ldBcN16 w | ldDeN16 w | ldHlN16 w | ldSpN16 w | ldIndA16Sp w | ldIndA16A w | ldAIndA16 w | jpA16 w | callA16 w
  | jpNzA16 w | jpZA16 w | jpNcA16 w | jpCA16 w | callNzA16 w | callZA16 w | callNcA16 w | callCA16 w =>
    exact decode_imm16_word rfl w rest
  | ldBN8 n | ldCN8 n | ldDN8 n | ldEN8 n | ldHN8 n | ldLN8 n | ldAN8 n | ldIndHlN8 n | ldhIndA8A n | ldhAIndA8 n
  | addAN8 n | adcAN8 n | subAN8 n | sbcAN8 n | andAN8 n | xorAN8 n | orAN8 n | cpAN8 n
  | jrE8 n | jrNzE8 n | jrZE8 n | jrNcE8 n | jrCE8 n | addSpE8 n | ldHlSpE8 n | stop n =>
    exact decode_imm8 rfl n rest
  | prefixCb op2 => exact decode_cb rfl op2 rest
  | _ => rfl

/-- Settles O5, by `decode_encode`. -/
theorem decodeEncode : Obligations.DecodeEncode := by
  unfold Obligations.DecodeEncode
  exact fun i rest => ⟨decode_encode i rest, canonical_of_wellFormed⟩

/-- The bytes of a well-formed instruction decode to it. -/
theorem decode_of_encode {i : Instr} {bytes : List Byte} (he : encode i = bytes) (hw : i.wellFormed = true)
    (rest : List Byte) : decode (bytes ++ rest) = .ok (i, rest) := by
  rw [← he, decode_encode, canonical_of_wellFormed hw]

/-! ### Encoding what was decoded -/

theorem encode_of_decode {bytes rest : List Byte} {i : Instr} (h : decode bytes = .ok (i, rest)) :
    i.wellFormed = true ∧ encode i ++ rest = bytes := by
  cases bytes with
  | nil => cases h
  | cons op tail =>
    have hform := formOf_agrees op
    rcases decode_cons_cases h with
        ⟨hf, rfl⟩ | ⟨k, n, hf, rfl, rfl⟩ | ⟨k, lo, hi, hf, rfl, rfl⟩ | ⟨op2, hf, rfl, rfl⟩ <;>
      rw [hf] at hform
    · obtain ⟨he, hw⟩ := hform
      exact ⟨hw, by simp [he]⟩
    · obtain ⟨he, hw⟩ := hform n
      exact ⟨hw, by simp [he]⟩
    · obtain ⟨he, hw⟩ := hform (wordOf hi lo)
      exact ⟨hw, by simp [he]⟩
    · obtain ⟨he, hw⟩ := cbOf_encode op2
      have hop : op = 0xCB := hform
      exact ⟨hw, by simp [he, hop]⟩

/-- No format needs more than two bytes after the first (R300). -/
theorem decode_three_bytes (b0 b1 b2 : Byte) (rest : List Byte) :
    ∃ (i : Instr) (tail : List Byte), decode (b0 :: b1 :: b2 :: rest) = .ok (i, tail) := by
  cases hf : formOf b0 with
  | op8 i => exact ⟨i, _, decode_op8 hf _⟩
  | imm8 k => exact ⟨k b1, _, decode_imm8 hf b1 _⟩
  | imm16 k => exact ⟨k (wordOf b2 b1), _, decode_imm16 hf b1 b2 _⟩
  | cb => exact ⟨cbOf b1, _, decode_cb hf b1 _⟩

/-- Settles O6, by the format of the first byte. -/
theorem encodeDecode : Obligations.EncodeDecode := by
  unfold Obligations.EncodeDecode
  exact ⟨fun _ _ _ => encode_of_decode, decode_three_bytes⟩

/-! ### Blocks 1 and 2 -/

/-- The instruction of block 1 by its two operands (R306): the move between them, and HALT where both are the byte at
HL. -/
def Instr.moveOf (dst src : Operand8) : Instr :=
  match dst, src with
  | .reg r, .reg r' => .loadReg r r'
  | .reg r, .indHl => .loadHl r
  | .indHl, .reg r => .storeHl r
  | .indHl, .indHl => .halt

theorem encode_moveOf (y z : BitVec 3) :
    encode (Instr.moveOf (r8 y) (r8 z)) = [0b01#2 ++ y ++ z] ∧ (Instr.moveOf (r8 y) (r8 z)).wellFormed = true := by
  revert y z
  decide

theorem encode_aluOf (y z : BitVec 3) :
    ∀ op ∈ [AluOp.add, .adc, .sub, .sbc, .and, .xor, .or, .cp][y.toNat]?,
      encode (Instr.aluOf op (r8 z)) = [0b10#2 ++ y ++ z] ∧ (Instr.aluOf op (r8 z)).wellFormed = true := by
  revert y z
  decide

theorem decode_block1 {y z : BitVec 3} {dst src : Operand8} (hy : r8 y = dst) (hz : r8 z = src) (rest : List Byte) :
    decode ((0b01#2 ++ y ++ z : BitVec 8) :: rest) = .ok (Instr.moveOf dst src, rest) := by
  subst hy hz
  obtain ⟨he, hw⟩ := encode_moveOf y z
  exact decode_of_encode he hw rest

/-- Settles O7: an operand of block 1 is `moveOf`, one of block 2 `aluOf`, and their encodings have these fields. -/
theorem decodeBlocks12 : Obligations.DecodeBlocks12 := by
  unfold Obligations.DecodeBlocks12
  intro y z rest
  refine ⟨fun dst r hy hz => decode_block1 hy hz rest, fun dst hy hz => decode_block1 hy hz rest,
    fun r hy hz => decode_block1 hy hz rest, fun hy hz => decode_block1 hy hz rest, fun op hop => ?_⟩
  obtain ⟨he, hw⟩ := encode_aluOf y z op hop
  exact decode_of_encode he hw rest

/-! ### The undefined opcodes -/

theorem encode_illegal : ∀ r ∈ illegalRows, encode r.2 = [r.1] ∧ r.2.wellFormed = true := by
  decide

theorem exec_illegal {r : Byte × Instr} (hr : r ∈ illegalRows) (s : State) : exec r.2 s = .next (s.raise r.1) := by
  fin_cases hr <;> rfl

/-- Settles O38: the encoding of an undefined instruction is its opcode, so no other first byte decodes to it. -/
theorem undefinedOpcodes : Obligations.UndefinedOpcodes := by
  unfold Obligations.UndefinedOpcodes
  refine ⟨fun r hr s rest => ⟨?_, exec_illegal hr s⟩, fun b bytes rest i h hi => ?_⟩
  · obtain ⟨he, hw⟩ := encode_illegal r hr
    exact decode_of_encode he hw rest
  · obtain ⟨r, hr, rfl⟩ := List.mem_map.mp hi
    obtain ⟨-, hbytes⟩ := encode_of_decode h
    have hb : r.1 = b := by
      rw [(encode_illegal r hr).1] at hbytes
      exact (List.cons.inj hbytes).1
    exact hb ▸ List.mem_map_of_mem hr

/-! ### Words of the opcode table -/

/-- Settles O8: each word is the encoding of the instruction it stands for. -/
theorem decodeWords : Obligations.DecodeWords := by
  unfold Obligations.DecodeWords
  exact ⟨rfl, rfl, rfl, rfl, rfl, rfl, rfl, rfl, rfl, rfl, rfl, rfl⟩

end Sys2Proof
end

section
/-!
PROOFS. The loads (spec/40_loads.md R401 to R423): what each answers, by the shared operation of its family, and its
frame. A load changes its registers and what its read does (R218); a store changes what `State.memWrite_frame` allows
and the stepped HL; the 16-bit forms, with INC, DEC and ADD on pairs (spec/41_arithmetic.md R529 to R532), change one
pair and the flags.
-/

namespace Sys2Proof.Machine

open Sys2Proof

/-! ### The forms that no operand family names -/

theorem exec_ldAIndA16 (a : Word) (s : State) : exec (.ldAIndA16 a) s = .next (s.loadFrom .a a) := rfl
theorem exec_ldhAIndA8 (n : Byte) (s : State) : exec (.ldhAIndA8 n) s = .next (s.loadFrom .a (highAddr n)) := rfl
theorem exec_ldhAIndC (s : State) : exec .ldhAIndC s = .next (s.loadFrom .a (highAddr (s.reg .c))) := rfl
theorem exec_ldIndHlN8 (n : Byte) (s : State) : exec (.ldIndHlN8 n) s = .next (s.memWrite s.hl n) := rfl
theorem exec_ldIndA16A (a : Word) (s : State) : exec (.ldIndA16A a) s = .next (s.storeTo a .a) := rfl
theorem exec_ldhIndA8A (n : Byte) (s : State) : exec (.ldhIndA8A n) s = .next (s.storeTo (highAddr n) .a) := rfl
theorem exec_ldhIndCA (s : State) : exec .ldhIndCA s = .next (s.storeTo (highAddr (s.reg .c)) .a) := rfl
theorem exec_ldIndA16Sp (a : Word) (s : State) : exec (.ldIndA16Sp a) s = .next (s.storeSp a) := rfl
theorem exec_ldSpHl (s : State) : exec .ldSpHl s = .next (s.setPair .sp s.hl) := rfl
theorem exec_ldHlSpE8 (e : Byte) (s : State) : exec (.ldHlSpE8 e) s = .next (s.loadHlSpOffset e) := rfl
theorem exec_addSpE8 (e : Byte) (s : State) : exec (.addSpE8 e) s = .next (s.addSp e) := rfl

/-- An address of page 0xFF as the sum R302 writes. -/
theorem highAddr_eq_add (n : Byte) : highAddr n = 0xFF00 + n.setWidth 16 := by
  apply BitVec.eq_of_toNat_eq
  have hn := n.isLt
  simp only [highAddr, wordOf_toNat, BitVec.toNat_add, BitVec.toNat_setWidth, BitVec.reduceToNat]
  omega

/-! ### HL after the access -/

theorem State.stepHl_only (s : State) (m : RegMem) : s.stepHl m = { s with regs := (s.stepHl m).regs } := by
  cases m <;> rfl

theorem State.stepHl_hl (s : State) (m : RegMem) : (s.stepHl m).hl = s.hlAfter m := by
  cases m with
  | bc | de => rfl
  | hlInc | hlDec => exact s.setPair_hl _

theorem State.hlAfter_congr {s t : State} (h : t.hl = s.hl) (m : RegMem) : t.hlAfter m = s.hlAfter m := by
  cases m <;> simp [State.hlAfter, h]

/-- A pair's write leaves every register that is no half of it. -/
theorem State.setPair_sameRegsBut (s : State) (p : Reg16) (v : Word) : s.sameRegsBut (s.setPair p v) p.halves := by
  intro q hq
  refine s.setPair_reg p v q ?_
  cases p with
  | bc | de | hl => simpa [Reg16.halves] using hq
  | sp => trivial

theorem State.stepHl_sameRegsBut (s : State) (m : RegMem) : s.sameRegsBut (s.stepHl m) m.stepped := by
  cases m with
  | bc | de => exact fun _ _ => rfl
  | hlInc | hlDec => exact s.setPair_sameRegsBut .hl _

theorem State.loadAMem_reg_a (s : State) (m : RegMem) : (s.loadAMem m).reg .a = s.memRead (s.memAddr m) := by
  have ha : Reg8.a ∉ m.stepped := by cases m <;> decide
  simp [State.loadAMem, State.stepHl_sameRegsBut _ m .a ha]

theorem State.loadAMem_hl (s : State) (m : RegMem) : (s.loadAMem m).hl = s.hlAfter m := by
  rw [State.loadAMem, State.stepHl_hl]
  exact State.hlAfter_congr (by simp) m

theorem State.storeAMem_hl (s : State) (m : RegMem) : (s.storeAMem m).hl = s.hlAfter m := by
  rw [State.storeAMem, State.stepHl_hl]
  exact State.hlAfter_congr (by simp) m

/-! ### What the loads and stores answer -/

/-- Settles O17, by the shared operation of each of the three families. -/
theorem loadRegister : Obligations.LoadRegister := by
  unfold Obligations.LoadRegister
  intro s dst r n
  exact ⟨exec_loadReg dst r s, exec_loadHl dst s, exec_loadImm dst n s⟩

/-- Settles O18: through a register pair A and HL are read off the load, elsewhere the whole state is given. -/
theorem loadAccumulator : Obligations.LoadAccumulator := by
  unfold Obligations.LoadAccumulator
  intro s m a n
  refine ⟨⟨_, exec_loadA m s, s.loadAMem_reg_a m, s.loadAMem_hl m⟩, exec_ldAIndA16 a s, ?_, ?_⟩
  · rw [← highAddr_eq_add]
    exact exec_ldhAIndA8 n s
  · rw [← highAddr_eq_add]
    exact exec_ldhAIndC s

/-- Settles O19: each form is the bus write at its address, and the stepped ones change HL after it. -/
theorem storeByte : Obligations.StoreByte := by
  unfold Obligations.StoreByte
  intro s r m a n
  refine ⟨exec_storeHl r s, exec_ldIndHlN8 n s, ⟨_, exec_storeA m s, s.storeAMem_hl m, State.stepHl_only _ m⟩,
    exec_ldIndA16A a s, ?_, ?_⟩
  · rw [← highAddr_eq_add]
    exact exec_ldhIndA8A n s
  · rw [← highAddr_eq_add]
    exact exec_ldhIndCA s

/-- Settles O20: a pair reads back what was written to it, and SP is stored low byte first. -/
theorem loadPair : Obligations.LoadPair := by
  unfold Obligations.LoadPair
  intro s p n
  exact ⟨⟨_, exec_loadPair p n s, s.setPair_pair p n⟩, exec_ldIndA16Sp n s, ⟨_, exec_ldSpHl s, s.setPair_pair .sp s.hl⟩⟩

/-! ### The registers a load or a store keeps -/

/-- SP, pc, F and every 8-bit register but the listed ones are as before. -/
structure RegsKept (s t : State) (dests : List Reg8) : Prop where
  regs : s.sameRegsBut t dests
  sp : t.regs.sp = s.regs.sp
  pc : t.regs.pc = s.regs.pc
  f : t.regs.f = s.regs.f

theorem RegsKept.trans {s t u : State} {ds es : List Reg8} (h : RegsKept s t ds) (k : RegsKept t u es) :
    RegsKept s u (ds ++ es) where
  regs := fun r hr => by
    obtain ⟨hd, he⟩ := not_or.1 (mt List.mem_append.2 hr)
    exact (k.regs r he).trans (h.regs r hd)
  sp := k.sp.trans h.sp
  pc := k.pc.trans h.pc
  f := k.f.trans h.f

theorem regsKept_afterRead (s : State) (a : Word) : RegsKept s (s.afterRead a) [] :=
  ⟨fun r _ => s.afterRead_reg a r, by simp, by simp, by simp⟩

theorem regsKept_memWrite (s : State) (a : Word) (v : Byte) : RegsKept s (s.memWrite a v) [] :=
  ⟨fun r _ => s.memWrite_reg a v r, by simp, by simp, by simp⟩

theorem regsKept_setReg (s : State) (r : Reg8) (v : Byte) : RegsKept s (s.setReg r v) [r] where
  regs := fun q hq => by rw [s.setReg_reg, if_neg (mt List.mem_singleton.2 hq)]
  sp := by simp
  pc := by simp
  f := by simp

theorem regsKept_stepHl (s : State) (m : RegMem) : RegsKept s (s.stepHl m) m.stepped where
  regs := s.stepHl_sameRegsBut m
  sp := by cases m <;> rfl
  pc := by cases m <;> rfl
  f := by cases m <;> rfl

/-! ### What stands outside the registers -/

/-- An update of the registers alone leaves everything else. -/
theorem State.sameOutsideRegs_of_regs {s t : State} (h : t = { s with regs := t.regs }) : s.sameOutsideRegs t := by
  rw [h]
  exact ⟨⟨rfl, rfl, rfl⟩, ⟨rfl, rfl, rfl, rfl, rfl, rfl, rfl, rfl, rfl, rfl, rfl⟩, rfl,
    State.memRead_congr rfl rfl rfl rfl rfl rfl rfl rfl rfl rfl⟩

theorem State.setReg_only (s : State) (r : Reg8) (v : Byte) :
    s.setReg r v = { s with regs := (s.setReg r v).regs } := by
  cases r <;> rfl

theorem State.setPair_only (s : State) (p : Reg16) (v : Word) :
    s.setPair p v = { s with regs := (s.setPair p v).regs } := by
  cases p <;> rfl

/-- With the default devices a read changes nothing (R218). -/
theorem State.afterRead_of_all_default {s : State} (h : ∀ d : DeviceKind, s.params.device d = .default) (a : Word) :
    s.afterRead a = s :=
  State.afterRead_eq fun r _ => State.port_default h r

/-- Registers written after reads: outside the registers the reads alone count. -/
theorem State.sameAfterReads_of_regs {s u t : State} (ht : t = { u with regs := t.regs })
    (hu : (∀ d : DeviceKind, s.params.device d = .default) → u = s) : s.sameAfterReads u t := by
  have hout : u.sameOutsideRegs t := State.sameOutsideRegs_of_regs ht
  exact ⟨hout, fun h => hu h ▸ hout⟩

/-! ### The frame of the register loads -/

theorem State.setReg_frame (s : State) (r : Reg8) (v : Byte) :
    RegsKept s (s.setReg r v) [r] ∧ s.sameAfterReads s (s.setReg r v) :=
  ⟨regsKept_setReg s r v, State.sameAfterReads_of_regs (s.setReg_only r v) fun _ => rfl⟩

theorem State.loadFrom_frame (s : State) (r : Reg8) (a : Word) :
    RegsKept s (s.loadFrom r a) [r] ∧ s.sameAfterReads (s.afterRead a) (s.loadFrom r a) :=
  ⟨(regsKept_afterRead s a).trans (regsKept_setReg _ r _),
    State.sameAfterReads_of_regs (State.setReg_only _ r _) fun h => State.afterRead_of_all_default h a⟩

theorem State.loadAMem_frame (s : State) (m : RegMem) :
    RegsKept s (s.loadAMem m) (.a :: m.stepped) ∧
      s.sameAfterReads (s.afterRead (s.memAddr m)) (s.loadAMem m) := by
  obtain ⟨hregs, -⟩ := s.loadFrom_frame .a (s.memAddr m)
  refine ⟨hregs.trans (regsKept_stepHl _ m),
    State.sameAfterReads_of_regs ?_ fun h => State.afterRead_of_all_default h _⟩
  rw [State.loadAMem, State.stepHl_only]
  rfl

/-- Settles O39: each form is one register write after at most one read, and `State.stepHl` where HL is stepped. -/
theorem frameLoads : Obligations.FrameLoads := by
  unfold Obligations.FrameLoads
  intro s u t i dests hi ht
  obtain ⟨hkept, hout⟩ : RegsKept s t dests ∧ s.sameAfterReads u t := by
    rcases hi with ⟨dst, r, n, rfl, rfl, rfl | rfl⟩ | ⟨dst, rfl, rfl, rfl⟩ | ⟨m, rfl, rfl, rfl⟩ | ⟨a, rfl, rfl, rfl⟩ |
      ⟨n, rfl, rfl, rfl⟩ | ⟨rfl, rfl, rfl⟩
    · cases (exec_loadReg dst r u).symm.trans ht
      exact u.setReg_frame dst _
    · cases (exec_loadImm dst n u).symm.trans ht
      exact u.setReg_frame dst n
    · cases (exec_loadHl dst s).symm.trans ht
      exact s.loadFrom_frame dst s.hl
    · cases (exec_loadA m s).symm.trans ht
      exact s.loadAMem_frame m
    · cases (exec_ldAIndA16 a s).symm.trans ht
      exact s.loadFrom_frame .a a
    · cases (exec_ldhAIndA8 n s).symm.trans ht
      exact s.loadFrom_frame .a (highAddr n)
    · cases (exec_ldhAIndC s).symm.trans ht
      exact s.loadFrom_frame .a (highAddr (s.reg .c))
  exact ⟨hkept.regs, hkept.sp, hkept.pc, hkept.f, hout⟩

/-! ### The frame of the stores -/

theorem State.storeAMem_frame (s : State) (m : RegMem) :
    RegsKept s (s.storeAMem m) m.stepped ∧ s.storeFrame (s.storeAMem m) [s.memAddr m] :=
  ⟨(regsKept_memWrite s _ _).trans (regsKept_stepHl _ m),
    State.storeFrame_regs (s.memWrite_frame _ _) (State.stepHl_only _ m)⟩

theorem State.memWrite16_frame (s : State) (a v : Word) :
    RegsKept s (s.memWrite16 a v) [] ∧ s.storeFrame (s.memWrite16 a v) [a, a + 1] :=
  ⟨(regsKept_memWrite s _ _).trans (regsKept_memWrite _ _ _),
    State.storeFrame_trans (s.memWrite_frame a _) (State.memWrite_frame _ (a + 1) _)⟩

/-- Settles O43: each form is one bus write, two for SP, with the frame of a store, and HL stepped after it. -/
theorem frameStores : Obligations.FrameStores := by
  unfold Obligations.FrameStores
  intro s t i stored dests hi ht
  have hwrite (a : Word) (v : Byte) : RegsKept s (s.memWrite a v) [] ∧ s.storeFrame (s.memWrite a v) [a] :=
    ⟨regsKept_memWrite s a v, s.memWrite_frame a v⟩
  obtain ⟨hkept, hframe⟩ : RegsKept s t dests ∧ s.storeFrame t stored := by
    rcases hi with ⟨r, n, rfl, rfl, rfl | rfl⟩ | ⟨m, rfl, rfl, rfl⟩ | ⟨a, rfl, rfl, rfl⟩ | ⟨n, rfl, rfl, rfl⟩ |
      ⟨rfl, rfl, rfl⟩ | ⟨a, rfl, rfl, rfl⟩
    · cases (exec_storeHl r s).symm.trans ht
      exact hwrite s.hl (s.reg r)
    · cases (exec_ldIndHlN8 n s).symm.trans ht
      exact hwrite s.hl n
    · cases (exec_storeA m s).symm.trans ht
      exact s.storeAMem_frame m
    · cases (exec_ldIndA16A a s).symm.trans ht
      exact hwrite a (s.reg .a)
    · cases (exec_ldhIndA8A n s).symm.trans ht
      exact hwrite (highAddr n) (s.reg .a)
    · cases (exec_ldhIndCA s).symm.trans ht
      exact hwrite (highAddr (s.reg .c)) (s.reg .a)
    · cases (exec_ldIndA16Sp a s).symm.trans ht
      exact s.memWrite16_frame a s.regs.sp
  exact ⟨hkept.regs, hkept.sp, hkept.pc, hkept.f, hframe⟩

/-! ### The frame of the pair operations -/

/-- Everything but one register pair and F is as before. -/
structure PairFrame (s t : State) (p : Reg16) : Prop where
  regs : s.sameRegsBut t p.halves
  sp : p ≠ .sp → t.regs.sp = s.regs.sp
  pc : t.regs.pc = s.regs.pc
  outside : s.sameOutsideRegs t

theorem pairFrame_setPair (s : State) (p : Reg16) (v : Word) : PairFrame s (s.setPair p v) p where
  regs := s.setPair_sameRegsBut p v
  sp := fun hp => by rw [s.setPair_sp, if_neg hp]
  pc := by simp
  outside := State.sameOutsideRegs_of_regs (s.setPair_only p v)

theorem pairFrame_setPair_merge {w : Nat} (s : State) (p : Reg16) (v : Word) (r : AluResult w) :
    PairFrame s ((s.setPair p v).merge r) p where
  regs := fun q hq => by rw [State.merge_reg, s.setPair_sameRegsBut p v q hq]
  sp := fun hp => by rw [State.merge_sp, s.setPair_sp, if_neg hp]
  pc := by simp
  outside := State.sameOutsideRegs_of_regs (by cases p <;> rfl)

/-- `ADD HL, rr` has Z outside its mask (R505). -/
theorem State.addHl_flagZ (s : State) (q : Reg16) : (s.addHl q).flagZ = s.flagZ := by
  obtain ⟨hz, -⟩ : (s.addHl q).flagsAre (s.setPair .hl _).flagZ false _ _ := State.merge_nhc _ _ false _ _ _
  rw [hz, State.flagZ, State.setPair_f, ← State.flagZ]

/-- Settles O40: each form writes one pair, and those that merge flags merge them after it. -/
theorem framePairs : Obligations.FramePairs := by
  unfold Obligations.FramePairs
  intro s t i p hi ht
  have hframe : PairFrame s t p := by
    rcases hi with ⟨n, rfl⟩ | rfl | rfl | ⟨rfl, rfl⟩ | ⟨q, rfl, rfl⟩ | ⟨e, rfl, rfl⟩ | ⟨e, rfl, rfl⟩
    · cases (exec_loadPair p n s).symm.trans ht
      exact pairFrame_setPair s p n
    · cases (exec_incPair p s).symm.trans ht
      exact pairFrame_setPair s p _
    · cases (exec_decPair p s).symm.trans ht
      exact pairFrame_setPair s p _
    · cases (exec_ldSpHl s).symm.trans ht
      exact pairFrame_setPair s .sp s.hl
    · cases (exec_addHl q s).symm.trans ht
      exact pairFrame_setPair_merge s .hl _ _
    · cases (exec_ldHlSpE8 e s).symm.trans ht
      exact pairFrame_setPair_merge s .hl _ _
    · cases (exec_addSpE8 e s).symm.trans ht
      exact pairFrame_setPair_merge s .sp _ _
  refine ⟨hframe.regs, hframe.sp, hframe.pc, hframe.outside, fun hplain => ?_, ?_⟩
  · rcases hplain with ⟨n, rfl⟩ | rfl | rfl | rfl
    · cases (exec_loadPair p n s).symm.trans ht
      exact s.setPair_f p n
    · cases (exec_incPair p s).symm.trans ht
      exact s.setPair_f p _
    · cases (exec_decPair p s).symm.trans ht
      exact s.setPair_f p _
    · cases (exec_ldSpHl s).symm.trans ht
      exact s.setPair_f .sp s.hl
  · rintro ⟨q, rfl⟩
    cases (exec_addHl q s).symm.trans ht
    exact s.addHl_flagZ q

end Sys2Proof.Machine
end

section
/-!
PROOFS. The arithmetic instructions (spec/41_arithmetic.md R510 to R533, R423): each function of the ALU as the value
and the flags its rule states, and from these what the instructions answer.
-/

namespace Sys2Proof.Machine

open Sys2Proof

/-! ### The functions of the ALU -/

theorem byteOfNat_beq_zero (n : Nat) : (BitVec.ofNat 8 n == 0) = decide (n % 256 = 0) :=
  Bool.eq_iff_iff.2 (by simp [← BitVec.toNat_inj])

/-- R501, with Z a statement about the sum. -/
theorem add8_eq (a v : Byte) (cin : Bool) :
    add8 a v cin =
      ⟨BitVec.ofNat 8 (a.toNat + v.toNat + boolNat cin), maskZNHC,
        flagByte (decide ((a.toNat + v.toNat + boolNat cin) % 256 = 0)) false
          (decide (a.toNat % 16 + v.toNat % 16 + boolNat cin > 15))
          (decide (a.toNat + v.toNat + boolNat cin > 255))⟩ := by
  simp only [add8, byteOfNat_beq_zero]

/-- R502 in natural numbers: two turns of 256 keep the difference from going below 0. -/
theorem sub8_eq (a v : Byte) (cin : Bool) :
    sub8 a v cin =
      ⟨BitVec.ofNat 8 (a.toNat + 512 - v.toNat - boolNat cin), maskZNHC,
        flagByte (decide ((a.toNat + 512 - v.toNat - boolNat cin) % 256 = 0)) true
          (decide (a.toNat % 16 < v.toNat % 16 + boolNat cin)) (decide (a.toNat < v.toNat + boolNat cin))⟩ := by
  have hv := v.isLt
  have hcin : boolNat cin ≤ 1 := by cases cin <;> decide
  have hvalue : BitVec.ofInt 8 ((a.toNat : Int) - v.toNat - boolNat cin) =
      BitVec.ofNat 8 (a.toNat + 512 - v.toNat - boolNat cin) := by
    apply BitVec.eq_of_toNat_eq
    rw [BitVec.toNat_ofInt, BitVec.toNat_ofNat]
    omega
  have hhalf : ((a.toNat % 16 : Nat) : Int) - (v.toNat % 16 : Nat) - boolNat cin < 0 ↔
      a.toNat % 16 < v.toNat % 16 + boolNat cin := by
    omega
  have hborrow : (a.toNat : Int) - v.toNat - boolNat cin < 0 ↔ a.toNat < v.toNat + boolNat cin := by
    omega
  simp only [sub8, hvalue, byteOfNat_beq_zero, hhalf, hborrow]

/-- The low nibble of a byte, as the half-carries of INC and DEC see it. -/
theorem toNat_and_0x0F (a : Byte) : (a &&& 0x0F).toNat = a.toNat % 16 := by
  rw [BitVec.toNat_and]
  exact Nat.and_two_pow_sub_one_eq_mod a.toNat 4

theorem and_0x0F_beq (a n : Byte) : (a &&& 0x0F == n) = decide (a.toNat % 16 = n.toNat) := by
  rw [Bool.eq_iff_iff, beq_iff_eq, decide_eq_true_iff, ← BitVec.toNat_inj, toNat_and_0x0F]

/-- R503. -/
theorem inc8_eq (a : Byte) :
    inc8 a = ⟨a + 1, maskZNH, flagByte (decide (a = 0xFF)) false (decide (a.toNat % 16 = 15)) false⟩ := by
  have hvalue : BitVec.ofNat 8 (a.toNat + 1) = a + 1 := by bv_omega
  have hzero : (a + 1 == 0) = decide (a = 0xFF) := Bool.eq_iff_iff.2 (by rw [beq_iff_eq, decide_eq_true_iff]; bv_omega)
  simp only [inc8, hvalue, hzero, and_0x0F_beq]
  rfl

/-- R504. -/
theorem dec8_eq (a : Byte) :
    dec8 a = ⟨a - 1, maskZNH, flagByte (decide (a = 0x01)) true (decide (a.toNat % 16 = 0)) false⟩ := by
  have hvalue : BitVec.ofInt 8 ((a.toNat : Int) - 1) = a - 1 := by
    apply BitVec.eq_of_toNat_eq
    have ha := a.isLt
    simp only [BitVec.toNat_ofInt, BitVec.toNat_sub, BitVec.reduceToNat]
    omega
  have hzero : (a - 1 == 0) = decide (a = 0x01) := Bool.eq_iff_iff.2 (by rw [beq_iff_eq, decide_eq_true_iff]; bv_omega)
  simp only [dec8, hvalue, hzero, and_0x0F_beq]
  rfl

/-- The value of R506: adding a sign-extended byte is adding the signed byte. -/
theorem addSpOffset_value (sp : Word) (e : Byte) :
    (addSpOffset sp e).value = BitVec.ofInt 16 ((sp.toNat : Int) + signed8 e) := by
  rw [← add_sext16]
  exact BitVec.eq_of_toNat_eq (by simp [addSpOffset])

/-! ### SP plus an offset -/

/-- Settles O21: the value is `addSpOffset_value`, and the merge takes all four flags of R506. -/
theorem stackPointerOffset : Obligations.StackPointerOffset := by
  unfold Obligations.StackPointerOffset
  intro s e
  refine ⟨⟨_, exec_ldHlSpE8 e s, ?_, rfl, State.merge_all _ _ _ _ _ _⟩,
    ⟨_, exec_addSpE8 e s, ?_, State.merge_all _ _ _ _ _ _⟩⟩
  · rw [State.loadHlSpOffset, State.merge_hl, State.setPair_hl, addSpOffset_value]
  · rw [State.addSp, State.merge_sp, State.setSp_sp, addSpOffset_value]

/-! ### ADD, ADC, SUB, SBC and CP -/

/-- The value and the flags of `Add8` put in A and F. -/
theorem State.isSum_add8 {s u : State} (v : Byte) (cin : Bool) :
    s.isSum ((u.setReg .a (add8 (s.reg .a) v cin).value).merge (add8 (s.reg .a) v cin)) v cin := by
  rw [add8_eq]
  exact ⟨by simp, State.merge_all _ _ _ _ _ _⟩

/-- The flags of `Sub8` put in F. -/
theorem State.isDifferenceFlags_sub8 {s u : State} (v : Byte) (cin : Bool) {w : Nat} (x : BitVec w) :
    s.isDifferenceFlags (u.merge ⟨x, maskZNHC, (sub8 (s.reg .a) v cin).flags⟩) v cin := by
  rw [sub8_eq]
  exact State.merge_all _ _ _ _ _ _

/-- The value and the flags of `Sub8` put in A and F. -/
theorem State.isDifference_sub8 {s u : State} (v : Byte) (cin : Bool) :
    s.isDifference ((u.setReg .a (sub8 (s.reg .a) v cin).value).merge (sub8 (s.reg .a) v cin)) v cin := by
  refine ⟨?_, State.isDifferenceFlags_sub8 v cin _⟩
  rw [sub8_eq]
  simp

/-- An operation on A and an operand sees A and C as they were before the operand's read. -/
theorem State.aluOperand_eq (s : State) (op : AluOp) (o : Operand8) :
    s.aluOperand op o =
      ((s.afterOperand o).setReg .a (alu op (s.reg .a) (s.operand o) s.flagC).value).merge
        (alu op (s.reg .a) (s.operand o) s.flagC) := by
  simp only [State.aluOperand, State.aluA, State.afterOperand_reg, State.afterOperand_flagC]

/-- Settles O22: both forms put the value and the flags of `Add8` in A and F. -/
theorem addAdc : Obligations.AddAdc := by
  unfold Obligations.AddAdc
  intro s o n
  refine ⟨⟨_, exec_aluOf .add o s, ?_⟩, ⟨_, exec_aluOf .adc o s, ?_⟩, ⟨_, exec_aluImm .add n s, State.isSum_add8 _ _⟩,
    ⟨_, exec_aluImm .adc n s, State.isSum_add8 _ _⟩⟩
  all_goals
    rw [State.aluOperand_eq]
    exact State.isSum_add8 _ _

/-- CP's value is A itself (R502). -/
theorem State.aluA_cp_reg_a (s : State) (v : Byte) : (s.aluA .cp v).reg .a = s.reg .a := by
  simp [State.aluA, alu, cp8]

theorem State.aluOperand_cp_reg_a (s : State) (o : Operand8) : (s.aluOperand .cp o).reg .a = s.reg .a := by
  rw [State.aluOperand, State.aluA_cp_reg_a, State.afterOperand_reg]

/-- Settles O23: SUB and SBC put the value and the flags of `Sub8` in A and F, CP the flags alone. -/
theorem subSbcCp : Obligations.SubSbcCp := by
  unfold Obligations.SubSbcCp
  intro s o n
  refine ⟨⟨_, exec_aluOf .sub o s, ?_⟩, ⟨_, exec_aluOf .sbc o s, ?_⟩,
    ⟨_, exec_aluOf .cp o s, s.aluOperand_cp_reg_a o, ?_⟩, ⟨_, exec_aluImm .sub n s, State.isDifference_sub8 _ _⟩,
    ⟨_, exec_aluImm .sbc n s, State.isDifference_sub8 _ _⟩,
    ⟨_, exec_aluImm .cp n s, s.aluA_cp_reg_a n, State.isDifferenceFlags_sub8 _ _ _⟩⟩
  all_goals rw [State.aluOperand_eq]
  · exact State.isDifference_sub8 _ _
  · exact State.isDifference_sub8 _ _
  · exact State.isDifferenceFlags_sub8 _ _ _

/-! ### INC and DEC -/

@[simp] theorem State.setOperand_f (s : State) (o : Operand8) (v : Byte) :
    (s.setOperand o v).regs.f = s.regs.f := by
  cases o <;> simp [State.setOperand]

/-- After an operand has been read and written, C is as before. -/
theorem State.operandWritten_flagC (s : State) (o : Operand8) (v : Byte) :
    ((s.afterOperand o).setOperand o v).flagC = s.flagC := by
  rw [State.flagC, State.setOperand_f, ← State.flagC, State.afterOperand_flagC]

theorem State.incOperand_flags (s : State) (o : Operand8) :
    (s.incOperand o).flagsAre (decide (s.operand o = 0xFF)) false (decide ((s.operand o).toNat % 16 = 15)) s.flagC := by
  rw [State.incOperand, inc8_eq, ← s.operandWritten_flagC o (s.operand o + 1)]
  exact State.merge_znh _ _ _ _ _ _

theorem State.decOperand_flags (s : State) (o : Operand8) :
    (s.decOperand o).flagsAre (decide (s.operand o = 0x01)) true (decide ((s.operand o).toNat % 16 = 0)) s.flagC := by
  rw [State.decOperand, dec8_eq, ← s.operandWritten_flagC o (s.operand o - 1)]
  exact State.merge_znh _ _ _ _ _ _

/-- Settles O25: the merge changes F alone after the write, and C is outside its mask. -/
theorem incDec : Obligations.IncDec := by
  unfold Obligations.IncDec
  intro s o
  refine ⟨⟨_, exec_incOf o s, ?_, s.incOperand_flags o⟩, ⟨_, exec_decOf o s, ?_, s.decOperand_flags o⟩⟩
  · rw [State.incOperand, inc8_eq]
    rfl
  · rw [State.decOperand, dec8_eq]
    rfl

/-! ### INC, DEC and ADD on pairs -/

theorem State.addHl_hl (s : State) (p : Reg16) :
    (s.addHl p).hl.toNat = (s.hl.toNat + (s.pair p).toNat) % 65536 := by
  rw [State.addHl, State.merge_hl, State.setPair_hl]
  exact BitVec.toNat_ofNat _ _

/-- R505: Z is outside the mask. -/
theorem State.addHl_flags (s : State) (p : Reg16) :
    (s.addHl p).flagsAre s.flagZ false (decide (s.hl.toNat % 4096 + (s.pair p).toNat % 4096 > 4095))
      (decide (s.hl.toNat + (s.pair p).toNat > 65535)) := by
  obtain ⟨-, hrest⟩ : (s.addHl p).flagsAre (s.setPair .hl _).flagZ false _ _ := State.merge_nhc _ _ false _ _ _
  exact ⟨s.addHl_flagZ p, hrest⟩

/-- Settles O26: a pair reads back what was written to it, and only ADD HL merges flags. -/
theorem pairArithmetic : Obligations.PairArithmetic := by
  unfold Obligations.PairArithmetic
  intro s p
  exact ⟨⟨_, exec_incPair p s, s.setPair_pair p _, s.setPair_f p _⟩,
    ⟨_, exec_decPair p s, s.setPair_pair p _, s.setPair_f p _⟩,
    ⟨_, exec_addHl p s, s.addHl_hl p, s.addHl_flags p⟩⟩

/-! ### DAA -/

/-- R507's condition for 0x06, on the original A. -/
def State.daaLow (s : State) : Bool := s.flagH || (!s.flagN && decide ((s.reg .a).toNat % 16 > 9))

/-- R507's condition for 0x60, on the original A. -/
def State.daaHigh (s : State) : Bool := s.flagC || (!s.flagN && decide ((s.reg .a).toNat > 0x99))

/-- What DAA adds to A after an addition and takes from it after a subtraction. -/
def State.daaAdjustment (s : State) : Byte := (if s.daaLow then 0x06 else 0) + (if s.daaHigh then 0x60 else 0)

/-- A after DAA. -/
def State.daaValue (s : State) : Byte :=
  if s.flagN then s.reg .a - s.daaAdjustment else s.reg .a + s.daaAdjustment

/-- R507 on the flags of a state: with N = 1 both conditions are the flag alone. -/
theorem State.daa_eq (s : State) :
    daa (s.reg .a) s.flagN s.flagH s.flagC =
      ⟨s.daaValue, maskZHC, flagByte (s.daaValue == 0) false false s.daaHigh⟩ := by
  have hsub (a : Byte) (k : Nat) : BitVec.ofInt 8 ((a.toNat : Int) - k) = a - BitVec.ofNat 8 k := by
    apply BitVec.eq_of_toNat_eq
    rw [BitVec.toNat_ofInt, BitVec.toNat_sub, BitVec.toNat_ofNat]
    omega
  have hadd (a : Byte) (k : Nat) : BitVec.ofNat 8 (a.toNat + k) = a + BitVec.ofNat 8 k := by
    rw [BitVec.ofNat_add, BitVec.ofNat_toNat, BitVec.setWidth_eq]
  have hadj (low high : Bool) : BitVec.ofNat 8 ((if high then 0x60 else 0) + (if low then 0x06 else 0)) =
      (if low then (0x06 : Byte) else 0) + (if high then 0x60 else 0) := by
    cases low <;> cases high <;> rfl
  unfold daa State.daaValue State.daaAdjustment State.daaLow State.daaHigh
  cases s.flagN with
  | false => simp only [hadd, hadj, Bool.false_eq_true, if_false, Bool.not_false, Bool.true_and]
  | true => simp only [hsub, hadj, if_true, Bool.not_true, Bool.false_and, Bool.or_false]

theorem State.daaAdjustment_toNat (s : State) :
    s.daaAdjustment.toNat = (if s.daaLow then 6 else 0) + (if s.daaHigh then 96 else 0) := by
  rw [State.daaAdjustment]
  cases s.daaLow <;> cases s.daaHigh <;> rfl

theorem exec_daa (s : State) : exec .daa s = .next s.daaA := rfl

theorem State.daaA_reg_a (s : State) : s.daaA.reg .a = s.daaValue := by
  simp only [State.daaA, s.daa_eq, State.merge_reg, State.setReg_reg, if_true]

/-- N is outside the mask. -/
theorem State.daaA_flags (s : State) : s.daaA.flagsAre (s.daaValue == 0) s.flagN false s.daaHigh := by
  have hn : (s.setReg .a s.daaValue).flagN = s.flagN := rfl
  rw [State.daaA, s.daa_eq, ← hn]
  exact State.merge_zhc _ _ _ false _ _

theorem bcd_toNat {n : Nat} (h : n < 100) : (bcd n).toNat = 16 * (n / 10) + n % 10 := by
  rw [bcd, BitVec.toNat_ofNat]
  omega

/-- The BCD sum passes 0x99 just when the numbers' sum passes 99: the tens decide, and at nine tens the units do. -/
theorem bcd_sum_gt_0x99 (x y : Nat) :
    16 * (x / 10) + x % 10 + (16 * (y / 10) + y % 10) > 0x99 ↔ x + y ≥ 100 := by
  rcases Nat.lt_trichotomy (x / 10 + y / 10) 9 with h | h | h <;> omega

section
variable {s t : State} {x y : Nat} (hx : x < 100) (hy : y < 100) (ha : s.reg .a = bcd x)
include hx hy ha

/-- After ADD the two conditions say that the low digits and the whole sum pass their decade. -/
theorem State.daaA_of_isSum (h : s.isSum t (bcd y) false) :
    t.daaA.reg .a = bcd ((x + y) % 100) ∧ t.daaA.flagC = decide (x + y ≥ 100) := by
  obtain ⟨hA, -, hN, hH, hC⟩ := h
  simp only [ha, bcd_toNat hx, bcd_toNat hy, boolNat, Bool.false_eq_true, if_false, Nat.add_zero] at hA hH hC
  have hlow : t.daaLow = decide (x % 10 + y % 10 > 9) := by
    rw [State.daaLow, hH, hN, hA, Bool.eq_iff_iff]
    simp only [Bool.or_eq_true, Bool.and_eq_true, Bool.not_false, true_and, decide_eq_true_iff]
    omega
  have hhigh : t.daaHigh = decide (x + y ≥ 100) := by
    rw [State.daaHigh, hC, hN, hA, Bool.eq_iff_iff]
    simp only [Bool.or_eq_true, Bool.and_eq_true, Bool.not_false, true_and, decide_eq_true_iff, ← bcd_sum_gt_0x99]
    omega
  obtain ⟨-, -, -, hcarry⟩ := t.daaA_flags
  refine ⟨?_, hcarry.trans hhigh⟩
  have hvalue : t.daaA.reg .a = t.reg .a + t.daaAdjustment := by
    rw [t.daaA_reg_a, State.daaValue, hN]
    rfl
  apply BitVec.eq_of_toNat_eq
  rw [hvalue, bcd_toNat (Nat.mod_lt _ (by decide)), BitVec.toNat_add, hA, t.daaAdjustment_toNat, hlow, hhigh]
  simp only [decide_eq_true_iff]
  split <;> split <;> omega

/-- After SUB the two flags say that the low digits and the whole difference borrow. -/
theorem State.daaA_of_isDifference (h : s.isDifference t (bcd y) false) :
    t.daaA.reg .a = bcd ((x + 100 - y) % 100) ∧ t.daaA.flagC = decide (x < y) := by
  obtain ⟨hA, -, hN, hH, hC⟩ := h
  simp only [ha, bcd_toNat hx, bcd_toNat hy, boolNat, Bool.false_eq_true, if_false, Nat.add_zero,
    Nat.sub_zero] at hA hH hC
  have hlow : t.daaLow = decide (x % 10 < y % 10) := by
    rw [State.daaLow, hH, hN, Bool.eq_iff_iff]
    simp only [Bool.or_eq_true, Bool.and_eq_true, Bool.not_true, Bool.false_eq_true, false_and, or_false,
      decide_eq_true_iff]
    omega
  have hhigh : t.daaHigh = decide (x < y) := by
    rw [State.daaHigh, hC, hN, Bool.eq_iff_iff]
    simp only [Bool.or_eq_true, Bool.and_eq_true, Bool.not_true, Bool.false_eq_true, false_and, or_false,
      decide_eq_true_iff]
    omega
  obtain ⟨-, -, -, hcarry⟩ := t.daaA_flags
  refine ⟨?_, hcarry.trans hhigh⟩
  have hvalue : t.daaA.reg .a = t.reg .a - t.daaAdjustment := by
    rw [t.daaA_reg_a, State.daaValue, hN]
    rfl
  apply BitVec.eq_of_toNat_eq
  rw [hvalue, bcd_toNat (Nat.mod_lt _ (by decide)), BitVec.toNat_sub, hA, t.daaAdjustment_toNat, hlow, hhigh]
  simp only [decide_eq_true_iff]
  split <;> split <;> omega

end

/-- Settles O27: R507 from `State.daa_eq`, and the decimal results from what ADD and SUB leave in A, H and C. -/
theorem decimalAdjust : Obligations.DecimalAdjust := by
  unfold Obligations.DecimalAdjust
  refine ⟨fun s => ⟨_, exec_daa s, s.daaA_reg_a, s.daaA_flags⟩, fun x y hx hy s ha => ⟨?_, ?_⟩⟩
  · exact ⟨_, _, exec_aluImm .add (bcd y) s, exec_daa _, State.daaA_of_isSum hx hy ha (State.isSum_add8 _ _)⟩
  · exact ⟨_, _, exec_aluImm .sub (bcd y) s, exec_daa _, State.daaA_of_isDifference hx hy ha (State.isDifference_sub8 _ _)⟩

end Sys2Proof.Machine
end

section
/-!
PROOFS. The frames of the operations on A and the flags, on one register and on the byte at HL (spec/41_arithmetic.md
R510 to R528, R533, 42_logic.md, 43_rotate_shift.md, 44_bit.md, 47_misc.md R1115, R1116). Each reads at most one operand,
writes at most one register or the byte at HL, and changes F; the frames follow from that shape.
-/

namespace Sys2Proof.Machine

open Sys2Proof

/-- F at a value. Every merge of an ALU result (R15) has this shape, with a value of its own. -/
def State.withF (s : State) (f : Byte) : State := { s with regs := { s.regs with f := f } }

@[simp] theorem State.withF_reg (s : State) (f : Byte) (q : Reg8) : (s.withF f).reg q = s.reg q := by
  cases q <;> rfl
@[simp] theorem State.withF_sp (s : State) (f : Byte) : (s.withF f).regs.sp = s.regs.sp := rfl
@[simp] theorem State.withF_pc (s : State) (f : Byte) : (s.withF f).regs.pc = s.regs.pc := rfl

/-! ### Registers and F, after the read of an operand -/

/-- Of the registers only the listed ones and F differ, and outside them only what the reads from s to u do. -/
structure OpFrame (s u t : State) (dests : List Reg8) : Prop where
  regs : s.sameRegsBut t dests
  sp : t.regs.sp = s.regs.sp
  pc : t.regs.pc = s.regs.pc
  outside : s.sameAfterReads u t

theorem State.afterOperand_of_all_default {s : State} (h : ∀ d : DeviceKind, s.params.device d = .default)
    (o : Operand8) : s.afterOperand o = s := by
  cases o with
  | reg r => rfl
  | indHl => exact State.afterRead_of_all_default h s.hl

theorem opFrame_withF (s : State) (o : Operand8) (f : Byte) :
    OpFrame s (s.afterOperand o) ((s.afterOperand o).withF f) [] where
  regs := fun q _ => by simp
  sp := by simp
  pc := by simp
  outside := State.sameAfterReads_of_regs rfl fun h => State.afterOperand_of_all_default h o

theorem opFrame_setReg_withF (s : State) (o : Operand8) (r : Reg8) (v f : Byte) :
    OpFrame s (s.afterOperand o) (((s.afterOperand o).setReg r v).withF f) [r] where
  regs := fun q hq => by simp [mt List.mem_singleton.2 hq]
  sp := by simp
  pc := by simp
  outside :=
    State.sameAfterReads_of_regs (by cases r <;> rfl) fun h => State.afterOperand_of_all_default h o

/-! ### A and the flags -/

theorem exec_cpl (s : State) : exec .cpl s = .next s.cplA := rfl
theorem exec_scf (s : State) : exec .scf s = .next (s.merge (carryFlags true)) := rfl
theorem exec_ccf (s : State) : exec .ccf s = .next (s.merge (carryFlags (!s.flagC))) := rfl

/-- The operations on A and the flags without an operand write at most A and F. -/
theorem exec_accumulator {i : Instr} (s : State)
    (hi : i ∈ [Instr.daa, .cpl, .rlca, .rrca, .rla, .rra, .scf, .ccf]) :
    ∃ v f : Byte, exec i s = .next ((s.setReg .a v).withF f) := by
  simp only [List.mem_cons, List.not_mem_nil, or_false] at hi
  rcases hi with rfl | rfl | rfl | rfl | rfl | rfl | rfl | rfl
  exacts [⟨_, _, rfl⟩, ⟨_, _, rfl⟩, ⟨_, _, rfl⟩, ⟨_, _, rfl⟩, ⟨_, _, rfl⟩, ⟨_, _, rfl⟩, ⟨s.reg .a, _, rfl⟩,
    ⟨s.reg .a, _, rfl⟩]

/-- R619: Z and C are outside the mask. -/
theorem State.cplA_flags (s : State) : s.cplA.flagsAre s.flagZ true true s.flagC :=
  State.merge_nh (s.setReg .a (~~~s.reg .a)) _ false true true false

/-- R1115, R1116: Z is outside the mask. -/
theorem State.merge_carryFlags_flagZ (s : State) (carry : Bool) : (s.merge (carryFlags carry)).flagZ = s.flagZ := by
  obtain ⟨hz, -⟩ := State.merge_nhc s (carryFlags carry).value false false false carry
  exact hz

/-- Settles O41: each form writes A and F at most, after the read of its operand. -/
theorem frameAccumulator : Obligations.FrameAccumulator := by
  unfold Obligations.FrameAccumulator
  intro s u t i hi ht
  have hframe : OpFrame s u t [.a] := by
    rcases hi with ⟨op, o, rfl, rfl⟩ | ⟨rfl, ⟨op, n, rfl⟩ | hi⟩
    · cases (exec_aluOf op o s).symm.trans ht
      exact opFrame_setReg_withF s o .a _ _
    · cases (exec_aluImm op n u).symm.trans ht
      exact opFrame_setReg_withF u (.reg .a) .a _ _
    · obtain ⟨v, f, h⟩ := exec_accumulator u hi
      cases h.symm.trans ht
      exact opFrame_setReg_withF u (.reg .a) .a v f
  refine ⟨hframe.regs, hframe.sp, hframe.pc, hframe.outside, ?_, fun hz => ?_, ?_, ?_⟩
  · rintro (⟨o, rfl⟩ | ⟨n, rfl⟩ | rfl | rfl)
    · cases (exec_aluOf .cp o s).symm.trans ht
      exact s.aluOperand_cp_reg_a o
    · cases (exec_aluImm .cp n s).symm.trans ht
      exact s.aluA_cp_reg_a n
    · cases (exec_scf s).symm.trans ht
      rfl
    · cases (exec_ccf s).symm.trans ht
      rfl
  · simp only [List.mem_cons, List.not_mem_nil, or_false] at hz
    rcases hz with rfl | rfl | rfl
    · cases (exec_cpl s).symm.trans ht
      exact s.cplA_flags.1
    · cases (exec_scf s).symm.trans ht
      exact s.merge_carryFlags_flagZ _
    · cases (exec_ccf s).symm.trans ht
      exact s.merge_carryFlags_flagZ _
  · rintro rfl
    cases (exec_cpl s).symm.trans ht
    obtain ⟨-, -, -, hc⟩ := s.cplA_flags
    exact hc
  · rintro rfl
    cases (exec_daa s).symm.trans ht
    obtain ⟨-, hn, -⟩ := s.daaA_flags
    exact hn

/-! ### The forms that write their operand -/

/-- t is s with an operand read and then written, and F changed: the shape of INC, DEC and the CB operations but
BIT. -/
def State.operandUpdated (s t : State) (o : Operand8) : Prop :=
  ∃ v f : Byte, t = ((s.afterOperand o).setOperand o v).withF f

theorem State.incOperand_updated (s : State) (o : Operand8) : s.operandUpdated (s.incOperand o) o := ⟨_, _, rfl⟩
theorem State.decOperand_updated (s : State) (o : Operand8) : s.operandUpdated (s.decOperand o) o := ⟨_, _, rfl⟩

/-- The CB field x of a rotate, shift, RES or SET. -/
theorem exec_cbField_updated {x : BitVec 2} (hx : x ≠ 1) (y z : BitVec 3) (s : State) :
    ∃ t, exec (Instr.cbField x y z) s = .next t ∧ s.operandUpdated t (r8 z) := by
  rcases two_bits x with rfl | rfl | rfl | rfl
  · exact ⟨_, exec_cbShift y z _ (List.getElem?_eq_getElem y.isLt) s, _, _, rfl⟩
  · exact absurd rfl hx
  · exact ⟨_, exec_cbRes y z s, _, _, rfl⟩
  · exact ⟨_, exec_cbSet y z s, _, _, rfl⟩

/-- R812 to R815: RES and SET merge nothing. -/
theorem exec_cbResSet_f {s t : State} {y z : BitVec 3} {i : Instr} (hi : i = .cbField 2 y z ∨ i = .cbField 3 y z)
    (ht : exec i s = .next t) : t.regs.f = s.regs.f := by
  rcases hi with rfl | rfl
  · cases (exec_cbRes y z s).symm.trans ht
    simp [State.resetBit]
  · cases (exec_cbSet y z s).symm.trans ht
    simp [State.setBit]

/-- R503, R504: C is outside the mask. -/
theorem exec_incDec_flagC {s t : State} {o : Operand8} {i : Instr} (hi : i = .incOf o ∨ i = .decOf o)
    (ht : exec i s = .next t) : t.flagC = s.flagC := by
  rcases hi with rfl | rfl
  · cases (exec_incOf o s).symm.trans ht
    obtain ⟨-, -, -, hc⟩ := s.incOperand_flags o
    exact hc
  · cases (exec_decOf o s).symm.trans ht
    obtain ⟨-, -, -, hc⟩ := s.decOperand_flags o
    exact hc

/-- R800: C is outside the mask. -/
theorem State.testBit_flagC (s : State) (b : BitVec 3) (o : Operand8) : (s.testBit b o).flagC = s.flagC := by
  obtain ⟨-, -, -, hc⟩ := State.merge_znh (s.afterOperand o) (s.operand o) _ false true false
  exact hc.trans (s.afterOperand_flagC o)

theorem State.operandUpdated.reg_frame {s t : State} {r : Reg8} (h : s.operandUpdated t (.reg r)) :
    OpFrame s s t [r] := by
  obtain ⟨v, f, rfl⟩ := h
  exact opFrame_setReg_withF s (.reg r) r v f

/-- Settles O42: the forms that write a register by `State.operandUpdated`, BIT by the read of its operand. -/
theorem frameRegisterOps : Obligations.FrameRegisterOps := by
  unfold Obligations.FrameRegisterOps
  intro s u t i dests hi ht
  have hframe : OpFrame s u t dests := by
    rcases hi with ⟨r, rfl, rfl, rfl | rfl⟩ | ⟨x, y, z, r, hx, hz, rfl, rfl, rfl⟩ | ⟨y, z, rfl, rfl, rfl⟩
    · cases (exec_incOf (.reg r) u).symm.trans ht
      exact (u.incOperand_updated (.reg r)).reg_frame
    · cases (exec_decOf (.reg r) u).symm.trans ht
      exact (u.decOperand_updated (.reg r)).reg_frame
    · obtain ⟨t', ht', hupdated⟩ := exec_cbField_updated hx y z u
      cases ht'.symm.trans ht
      exact (hz ▸ hupdated).reg_frame
    · cases (exec_cbBit y z s).symm.trans ht
      exact opFrame_withF s (r8 z) _
  refine ⟨hframe.regs, hframe.sp, hframe.pc, hframe.outside, ?_, fun ⟨y, z, hi⟩ => exec_cbResSet_f hi ht⟩
  rintro (⟨o, hi⟩ | ⟨y, z, rfl⟩)
  · exact exec_incDec_flagC hi ht
  · cases (exec_cbBit y z s).symm.trans ht
    exact s.testBit_flagC y (r8 z)

/-! ### The byte at HL -/

theorem State.operandUpdated.indHl_regs {s t : State} (h : s.operandUpdated t .indHl) :
    s.sameRegsBut t [] ∧ t.regs.sp = s.regs.sp ∧ t.regs.pc = s.regs.pc := by
  obtain ⟨v, f, rfl⟩ := h
  exact ⟨fun q _ => by simp [State.setOperand], by simp [State.setOperand], by simp [State.setOperand]⟩

/-- The write back goes to the address that was read: the read changes no register. -/
theorem State.operandUpdated.indHl_storeFrame {s t : State} (h : s.operandUpdated t .indHl) :
    (s.afterRead s.hl).storeFrame t [s.hl] := by
  obtain ⟨v, f, rfl⟩ := h
  have hwrite : (s.afterRead s.hl).storeFrame ((s.afterRead s.hl).memWrite s.hl v) [s.hl] := State.memWrite_frame _ _ v
  refine State.storeFrame_regs hwrite ?_
  rw [State.setOperand, State.afterOperand, State.afterRead_hl]
  rfl

/-- Settles O44: each form is one read and one store at HL, and F. -/
theorem frameMemoryOps : Obligations.FrameMemoryOps := by
  unfold Obligations.FrameMemoryOps
  intro s t i hi ht
  have hupdated : s.operandUpdated t .indHl := by
    rcases hi with rfl | rfl | ⟨x, y, hx, rfl⟩
    · cases (exec_incOf .indHl s).symm.trans ht
      exact s.incOperand_updated .indHl
    · cases (exec_decOf .indHl s).symm.trans ht
      exact s.decOperand_updated .indHl
    · obtain ⟨t', ht', hcb⟩ := exec_cbField_updated hx y 6 s
      cases ht'.symm.trans ht
      exact hcb
  obtain ⟨hregs, hsp, hpc⟩ := hupdated.indHl_regs
  have hstore := hupdated.indHl_storeFrame
  refine ⟨hregs, hsp, hpc, hstore, fun hdefault => ?_, fun hi => exec_incDec_flagC hi ht,
    fun ⟨y, hi⟩ => exec_cbResSet_f hi ht⟩
  rwa [State.afterRead_of_all_default hdefault] at hstore

end Sys2Proof.Machine
end

section
/-!
PROOFS. The bitwise logic instructions (spec/42_logic.md R610 to R619): AND, XOR and OR each put a value, and the flags
R600 to R602 give for it, in A and F; CPL complements A.
-/

namespace Sys2Proof.Machine

open Sys2Proof

/-- A value put in A, and the flags R600 to R602 give for it put in F. -/
theorem State.isLogic_setReg_merge (u : State) (v : Byte) (h : Bool) :
    ((u.setReg .a v).merge ⟨v, maskZNHC, flagByte (v == 0) false h false⟩).isLogic v h :=
  ⟨by rw [State.merge_reg, State.setReg_reg, if_pos rfl], State.merge_all _ _ _ _ _ _⟩

/-- R619: the value. -/
theorem State.cplA_reg_a (s : State) : s.cplA.reg .a = ~~~(s.reg .a) := by
  rw [State.cplA, State.merge_reg, State.setReg_reg, if_pos rfl, cpl8]

/-- Settles O24: AND, XOR and OR of an operand and of an immediate are `State.isLogic_setReg_merge` for their value; CPL
is `State.cplA_reg_a` and `State.cplA_flags`. -/
theorem logic : Obligations.Logic := by
  unfold Obligations.Logic
  intro s o n
  refine ⟨⟨_, exec_aluOf .and o s, ?_⟩, ⟨_, exec_aluOf .xor o s, ?_⟩, ⟨_, exec_aluOf .or o s, ?_⟩,
    ⟨_, exec_aluImm .and n s, s.isLogic_setReg_merge _ _⟩, ⟨_, exec_aluImm .xor n s, s.isLogic_setReg_merge _ _⟩,
    ⟨_, exec_aluImm .or n s, s.isLogic_setReg_merge _ _⟩, ⟨_, exec_cpl s, s.cplA_reg_a, s.cplA_flags⟩⟩
  all_goals
    rw [State.aluOperand_eq]
    exact State.isLogic_setReg_merge _ _ _

end Sys2Proof.Machine
end

section
/-!
PROOFS. The rotates and shifts (spec/43_rotate_shift.md R710 to R729). Each operation but SWAP is a shift by one place
with the bit that enters put in by an or, so its bits are those of the two parts; the accumulator forms and the CB forms
put its value and its flags in place.
-/

namespace Sys2Proof.Machine

open Sys2Proof

/-! ### The bits of the shifted byte and of the bit that enters -/

section
variable (a : Byte) (i : Nat)

theorem shiftRight_one_bit : (a >>> 1).getLsbD i = if i = 7 then false else a.getLsbD (i + 1) := by
  rw [BitVec.getLsbD_ushiftRight, Nat.add_comm 1 i]
  split
  · exact BitVec.getLsbD_of_ge a _ (by omega)
  · rfl

/-- Bit 7, moved to bit 0. -/
theorem shiftRight_seven_bit : (a >>> 7).getLsbD i = if i = 0 then a.getLsbD 7 else false := by
  rw [BitVec.getLsbD_ushiftRight]
  split
  · next h => rw [h]
  · exact BitVec.getLsbD_of_ge a _ (by omega)

theorem boolByte_bit (c : Bool) : (boolByte c).getLsbD i = if i = 0 then c else false := by
  cases c <;> simp [boolByte, BitVec.getLsbD_one]

variable {i}

/-- The shift right leaves bit 7 to the bit that enters. -/
theorem shiftRight_one_or_bit {w : Byte} {x : Bool} (hw : w.getLsbD i = if i = 7 then x else false) :
    ((a >>> 1) ||| w).getLsbD i = if i = 7 then x else a.getLsbD (i + 1) := by
  rw [BitVec.getLsbD_or, shiftRight_one_bit a i, hw]
  split <;> simp

variable (hi : i < 8)
include hi

theorem shiftLeft_one_bit : (a <<< 1).getLsbD i = if i = 0 then false else a.getLsbD (i - 1) := by
  rw [BitVec.getLsbD_shiftLeft]
  split <;> simp [hi] <;> omega

/-- Bit 0, moved to bit 7. -/
theorem shiftLeft_seven_bit : (a <<< 7).getLsbD i = if i = 7 then a.getLsbD 0 else false := by
  rw [BitVec.getLsbD_shiftLeft]
  split
  · next h => simp [h]
  · simp; omega

/-- The mask of SRA keeps bit 7 alone. -/
theorem and_0x80_bit : (a &&& 0x80).getLsbD i = if i = 7 then a.getLsbD 7 else false := by
  have hmask : (0x80 : Byte).getLsbD i = decide (i = 7) := by interval_cases i <;> rfl
  rw [BitVec.getLsbD_and, hmask]
  split <;> simp [*]

/-- The shift left leaves bit 0 to the bit that enters. -/
theorem shiftLeft_one_or_bit {w : Byte} {x : Bool} (hw : w.getLsbD i = if i = 0 then x else false) :
    ((a <<< 1) ||| w).getLsbD i = if i = 0 then x else a.getLsbD (i - 1) := by
  rw [BitVec.getLsbD_or, shiftLeft_one_bit a hi, hw]
  split <;> simp

/-- R706: each half comes from the other. -/
theorem swap_bit : ((a <<< 4) ||| (a >>> 4)).getLsbD i = a.getLsbD ((i + 4) % 8) := by
  rw [BitVec.getLsbD_or, BitVec.getLsbD_shiftLeft, BitVec.getLsbD_ushiftRight]
  rcases Nat.lt_or_ge i 4 with h | h
  · have hfrom : (i + 4) % 8 = 4 + i := by omega
    simp [h, hfrom]
  · have hfrom : (i + 4) % 8 = i - 4 := by omega
    have hright : a.getLsbD (4 + i) = false := BitVec.getLsbD_of_ge a _ (by omega)
    simp [hi, Nat.not_lt.2 h, hfrom, hright]

end

/-! ### The eight operations -/

/-- R700 to R707: the value, bit by bit. -/
theorem shift_makes (op : ShiftOp) (a : Byte) (cin checkZ : Bool) : op.makes a cin (shift op a cin checkZ).value := by
  intro i hi
  have hcin : (boolByte cin <<< 7).getLsbD i = if i = 7 then cin else false := by
    rw [shiftLeft_seven_bit _ hi, boolByte_bit, if_pos rfl]
  cases op with
  | rlc => exact shiftLeft_one_or_bit a hi (shiftRight_seven_bit a i)
  | rrc => exact shiftRight_one_or_bit a (shiftLeft_seven_bit a hi)
  | rl => exact shiftLeft_one_or_bit a hi (boolByte_bit i cin)
  | rr => exact shiftRight_one_or_bit a hcin
  | sla => exact shiftLeft_one_bit a hi
  | sra => exact shiftRight_one_or_bit a (and_0x80_bit a hi)
  | swap => exact swap_bit a hi
  | srl => exact shiftRight_one_bit a i

/-- R700 to R707: the mask is {Z, N, H, C}, N = H = 0, and C is the bit shifted out. -/
theorem shift_eq (op : ShiftOp) (a : Byte) (cin checkZ : Bool) :
    shift op a cin checkZ = shiftResult (shift op a cin checkZ).value (op.carryOf a) checkZ := by
  cases op <;> rfl

/-! ### The accumulator forms and the CB forms -/

/-- R710 to R713, by the operation each accumulator form names. -/
theorem exec_accumulatorRotate {p : Instr × ShiftOp}
    (hp : p ∈ [(Instr.rlca, ShiftOp.rlc), (.rrca, .rrc), (.rla, .rl), (.rra, .rr)]) (s : State) :
    exec p.1 s = .next (s.rotateA p.2) := by
  simp only [List.mem_cons, List.not_mem_nil, or_false] at hp
  rcases hp with rfl | rfl | rfl | rfl <;> rfl

theorem State.rotateA_reg_a (s : State) (op : ShiftOp) :
    (s.rotateA op).reg .a = (shift op (s.reg .a) s.flagC false).value := by
  rw [State.rotateA, State.merge_reg, State.setReg_reg, if_pos rfl]

/-- checkZ is false, so Z is 0 whatever the value. -/
theorem State.rotateA_flags (s : State) (op : ShiftOp) :
    (s.rotateA op).flagsAre false false false (op.carryOf (s.reg .a)) := by
  rw [State.rotateA, shift_eq]
  exact State.merge_all _ _ _ _ _ _

/-- checkZ is true, so Z is from the value. -/
theorem State.shiftOperand_flags (s : State) (op : ShiftOp) (o : Operand8) :
    (s.shiftOperand op o).flagsAre ((shift op (s.operand o) s.flagC true).value == 0) false false
      (op.carryOf (s.operand o)) := by
  rw [State.shiftOperand, shift_eq]
  exact State.merge_all _ _ _ _ _ _

/-- Settles O28: the values are those of `shift_makes`, the flags those of `shift_eq`, and the merge after the write
changes F alone. -/
theorem rotatesShifts : Obligations.RotatesShifts := by
  unfold Obligations.RotatesShifts
  intro s
  refine ⟨fun p hp => ⟨_, exec_accumulatorRotate hp s, ?_, s.rotateA_flags p.2⟩, fun y z op hop =>
    ⟨_, _, exec_cbShift y z op hop s, shift_makes op _ _ true, rfl, s.shiftOperand_flags op (r8 z)⟩⟩
  rw [s.rotateA_reg_a]
  exact shift_makes p.2 _ _ false

end Sys2Proof.Machine
end

section
/-!
PROOFS. The single-bit instructions (spec/44_bit.md R810 to R815). BIT merges the flags of R800 after its operand's read;
RES and SET write the operand back under the mask of one bit.
-/

namespace Sys2Proof.Machine

open Sys2Proof

/-! ### The mask of one bit -/

section
variable (b : BitVec 3) (v : Byte) {i : Nat}

theorem bitMask_bit : (bitMask b).getLsbD i = decide (i = b.toNat) := by
  have hb : b.toNat < 8 := b.isLt
  have hpow : bitMask b = BitVec.twoPow 8 b.toNat := rfl
  simp [hpow, BitVec.getLsbD_twoPow, hb, eq_comm]

/-- R812, R813: the complement of the mask keeps the seven other bits. -/
theorem bitReset_bit (hi : i < 8) :
    (bitReset b v).getLsbD i = if i = b.toNat then false else v.getLsbD i := by
  rw [bitReset, BitVec.getLsbD_and, BitVec.getLsbD_not, bitMask_bit]
  split <;> simp [*]

/-- R814, R815: the mask puts in one bit. -/
theorem bitSet_bit : (bitSet b v).getLsbD i = if i = b.toNat then true else v.getLsbD i := by
  rw [bitSet, BitVec.getLsbD_or, bitMask_bit]
  split <;> simp [*]

end

/-! ### BIT, RES and SET -/

/-- R800, R810, R811: C is outside the mask. -/
theorem State.testBit_flags (s : State) (b : BitVec 3) (o : Operand8) :
    (s.testBit b o).flagsAre (!(s.operand o).getLsbD b.toNat) false true s.flagC := by
  rw [← s.afterOperand_flagC o]
  exact State.merge_znh _ _ _ false true false

/-- BIT has no value to write: after the operand's read it changes F alone. -/
theorem State.testBit_eq (s : State) (b : BitVec 3) (o : Operand8) :
    s.testBit b o = { s.afterOperand o with regs := { s.regs with f := (s.testBit b o).regs.f } } := by
  rw [← s.afterOperand_regs o]
  rfl

/-- Settles O29: BIT y of the operand z is `State.testBit`, which merges the flags of R800 and nothing else. -/
theorem cbBit : Obligations.CbBit := by
  unfold Obligations.CbBit
  intro s y z
  exact ⟨_, exec_cbBit y z s, s.testBit_eq y (r8 z), s.testBit_flags y (r8 z)⟩

/-- Settles O30: the byte written back is `bitReset` or `bitSet` of the operand, and no flag is merged. -/
theorem cbResSet : Obligations.CbResSet := by
  unfold Obligations.CbResSet
  intro s y z
  exact ⟨⟨_, exec_cbRes y z s, fun _ hi => bitReset_bit y _ hi⟩, ⟨_, exec_cbSet y z s, fun _ _ => bitSet_bit y _⟩⟩

end Sys2Proof.Machine
end

section
/-!
PROOFS. Control transfer (spec/45_control.md R910 to R920) and the frame it shares with the stack (spec/46_stack.md
R1010 to R1013). A jump writes pc; a call is `State.push16` and a jump, a return `State.pop16` and a jump, so the exact
states come from `State.push16_eq` and `State.pop16_eq`, and the frames from what one push and one pop change.
-/

namespace Sys2Proof.Machine

open Sys2Proof

/-! ### The forms without a condition -/

theorem exec_jpA16 (a : Word) (s : State) : exec (.jpA16 a) s = .next (s.setPc a) := rfl
theorem exec_jpHl (s : State) : exec .jpHl s = .next (s.setPc s.hl) := rfl
theorem exec_jrE8 (e : Byte) (s : State) : exec (.jrE8 e) s = .next (s.jumpRel e) := rfl
theorem exec_callA16 (a : Word) (s : State) : exec (.callA16 a) s = .next (s.call a) := rfl
theorem exec_ret (s : State) : exec .ret s = .next s.ret := rfl
theorem exec_reti (s : State) : exec .reti s = .next s.retInterrupt := rfl

/-! ### The exact states -/

/-- The signed offset of R913, added to the address after the instruction. -/
theorem State.jumpRel_eq (s : State) (e : Byte) :
    s.jumpRel e = s.setPc (BitVec.ofInt 16 ((s.regs.pc.toNat : Int) + signed8 e)) := by
  rw [State.jumpRel, add_sext16]

theorem State.call_eq (s : State) (a : Word) :
    s.call a =
      { (s.memWrite (s.regs.sp - 1) (hiByte s.regs.pc)).memWrite (s.regs.sp - 2) (loByte s.regs.pc) with
        regs := { s.regs with sp := s.regs.sp - 2, pc := a } } := by
  rw [State.call, State.push16_eq]
  rfl

theorem State.ret_eq (s : State) :
    s.ret =
      { s.afterReads s.regs.sp 2 with
        regs := { s.regs with
          sp := s.regs.sp + 2
          pc := wordOf ((s.afterRead s.regs.sp).memRead (s.regs.sp + 1)) (s.memRead s.regs.sp) } } := by
  rw [State.ret, State.pop16_eq]
  rfl

/-- R919, R1211: a return that also writes IME and the countdown; no other control state changes. -/
theorem State.retInterrupt_eq (s : State) :
    s.retInterrupt = { s.ret with ctl := { s.ctl with ime := true, imeDelay := 0 } } := by
  rw [State.retInterrupt, State.setIme, State.ret_ctl]

/-- Settles O32: each form writes pc, a conditional one by `State.jumpIf` or `State.jumpRelIf`. -/
theorem jumps : Obligations.Jumps := by
  unfold Obligations.Jumps
  intro s k a e rel
  have hrel : s.jumpRel e = s.setPc rel := s.jumpRel_eq e
  rw [← hrel]
  exact ⟨exec_jpA16 a s, exec_jumpIf k a s, exec_jpHl s, exec_jrE8 e s, exec_jumpRelIf k e s⟩

/-- Settles O33: each form taken is `State.call`, whose push and jump `State.call_eq` writes out. -/
theorem calls : Obligations.Calls := by
  unfold Obligations.Calls
  intro s k a y pushed called
  have hcall (target : Word) : s.call target = called target := s.call_eq target
  rw [← hcall, ← hcall]
  exact ⟨exec_callA16 a s, exec_callIf k a s, exec_rst y s⟩

/-- Settles O34: each form taken is `State.ret`, whose pop and jump `State.ret_eq` writes out. -/
theorem returns : Obligations.Returns := by
  unfold Obligations.Returns
  intro s k returned
  have hret : s.ret = returned := s.ret_eq
  rw [← hret, ← State.retInterrupt_eq]
  exact ⟨exec_ret s, exec_retIf k s, exec_reti s⟩

/-! ### Jumps as writes of pc -/

theorem State.jumpIf_eq_setPc (s : State) (k : Cond) (a : Word) :
    s.jumpIf k a = s.setPc (if s.holds k then a else s.regs.pc) := by
  unfold State.jumpIf
  split <;> rfl

theorem State.jumpRelIf_eq_setPc (s : State) (k : Cond) (e : Byte) :
    s.jumpRelIf k e = s.setPc (if s.holds k then s.regs.pc + sext16 e else s.regs.pc) := by
  unfold State.jumpRelIf
  split <;> rfl

/-- R910 to R914: a jump is one write of pc, of the old pc where it is not taken. -/
theorem exec_jump {i : Instr} (s : State) {k : Cond} {a : Word} {e : Byte}
    (hi : i = .jpA16 a ∨ i = .jumpIf k a ∨ i = .jpHl ∨ i = .jrE8 e ∨ i = .jumpRelIf k e) :
    ∃ pc : Word, exec i s = .next (s.setPc pc) := by
  rcases hi with rfl | rfl | rfl | rfl | rfl
  · exact ⟨a, exec_jpA16 a s⟩
  · exact ⟨_, s.jumpIf_eq_setPc k a ▸ exec_jumpIf k a s⟩
  · exact ⟨s.hl, exec_jpHl s⟩
  · exact ⟨_, exec_jrE8 e s⟩
  · exact ⟨_, s.jumpRelIf_eq_setPc k e ▸ exec_jumpRelIf k e s⟩

/-! ### The frame of a push -/

/-- Only SP, pc and the two bytes below SP change, with what their stores do to the devices. -/
structure PushFrame (s t : State) : Prop where
  regs : s.sameRegsBut t []
  f : t.regs.f = s.regs.f
  stored : s.storeFrame t [s.regs.sp - 1, s.regs.sp - 2]

/-- An instruction that does nothing keeps every frame of stores. -/
theorem State.storeFrame_refl (s : State) (stored : List Word) : s.storeFrame s stored :=
  ⟨rfl, rfl, rfl, rfl, rfl, rfl, fun _ => ⟨rfl, rfl⟩, fun _ => rfl, fun _ => rfl, fun _ => rfl, fun _ _ => rfl,
    fun _ _ _ _ => rfl, fun _ => rfl, fun _ _ => rfl, fun _ _ => rfl⟩

theorem pushFrame_refl (s : State) : PushFrame s s :=
  ⟨fun _ _ => rfl, rfl, s.storeFrame_refl _⟩

theorem pushFrame_push16 (s : State) (v : Word) : PushFrame s (s.push16 v) := by
  rw [State.push16_eq]
  exact ⟨fun r _ => by cases r <;> rfl, rfl,
    State.storeFrame_regs (State.storeFrame_trans (s.memWrite_frame _ _) (State.memWrite_frame _ _ _)) rfl⟩

theorem PushFrame.setPc {s t : State} (h : PushFrame s t) (pc : Word) : PushFrame s (t.setPc pc) where
  regs := fun r hr => (t.setPc_reg r pc).trans (h.regs r hr)
  f := h.f
  stored := State.storeFrame_regs h.stored rfl

theorem pushFrame_call (s : State) (a : Word) : PushFrame s (s.call a) :=
  (pushFrame_push16 s s.regs.pc).setPc a

theorem pushFrame_callIf (s : State) (k : Cond) (a : Word) : PushFrame s (s.callIf k a) := by
  unfold State.callIf
  split
  · exact pushFrame_call s a
  · exact pushFrame_refl s

/-! ### The frame of a pop -/

theorem State.afterReads_of_all_default {s : State} (h : ∀ d : DeviceKind, s.params.device d = .default) (a : Word)
    (n : Nat) : s.afterReads a n = s := by
  induction n generalizing a with
  | zero => rfl
  | succ n ih => rw [State.afterReads, State.afterRead_of_all_default h, ih]

/-- A pop's own effect on the registers is SP + 2. -/
theorem State.pop16_regs (s : State) : s.pop16.2.regs = { s.regs with sp := s.regs.sp + 2 } := by
  rw [State.pop16_eq]

@[simp] theorem State.pop16_f (s : State) : s.pop16.2.regs.f = s.regs.f := by rw [State.pop16_regs]
@[simp] theorem State.pop16_pc (s : State) : s.pop16.2.regs.pc = s.regs.pc := by rw [State.pop16_regs]

theorem State.pop16_sameRegsBut (s : State) : s.sameRegsBut s.pop16.2 [] := fun r _ => by
  cases r <;> simp [State.reg, State.pop16_regs]

/-- Registers written after a pop: outside the registers the pop's two reads alone count (R14, R218). -/
theorem State.pop16_sameAfterReads {s t : State} (ht : t = { s.pop16.2 with regs := t.regs }) :
    s.sameAfterReads (s.afterReads s.regs.sp 2) t :=
  State.sameAfterReads_of_regs (ht.trans (by rw [State.pop16_eq])) fun h => State.afterReads_of_all_default h _ _

/-- F is kept, and of the other registers only the listed ones, SP and pc differ; outside them only what the two
reads of a pop do. -/
structure PopFrame (s t : State) (dests : List Reg8) : Prop where
  regs : s.sameRegsBut t dests
  f : t.regs.f = s.regs.f
  outside : s.sameAfterReads (s.afterReads s.regs.sp 2) t

theorem popFrame_ret (s : State) : PopFrame s s.ret [] where
  regs := fun r hr => (State.setPc_reg _ r _).trans (s.pop16_sameRegsBut r hr)
  f := s.pop16_f
  outside := State.pop16_sameAfterReads rfl

/-- With IME and the countdown put back, RETI is RET. -/
theorem State.retInterrupt_restored (s : State) :
    { s.retInterrupt with ctl := { s.retInterrupt.ctl with ime := s.ctl.ime, imeDelay := s.ctl.imeDelay } } =
      s.ret := by
  rw [State.retInterrupt_eq, ← s.ret_ctl]

theorem popFrame_popPair (s : State) (p : Reg16) : PopFrame s (s.pop16.2.setPair p s.pop16.1) p.halves where
  regs := fun r hr => (State.setPair_sameRegsBut _ p _ r hr).trans (s.pop16_sameRegsBut r List.not_mem_nil)
  f := by rw [State.setPair_f, State.pop16_f]
  outside := State.pop16_sameAfterReads (State.setPair_only _ p _)

/-- R1012: the pairs but AF are written as pairs. -/
theorem exec_popPair {i : Instr} {p : Reg16} (s : State)
    (hi : (p = .bc ∧ i = .pop .bc) ∨ (p = .de ∧ i = .pop .de) ∨ (p = .hl ∧ i = .pop .hl)) :
    exec i s = .next (s.pop16.2.setPair p s.pop16.1) := by
  rcases hi with ⟨rfl, rfl⟩ | ⟨rfl, rfl⟩ | ⟨rfl, rfl⟩ <;> rfl

/-- R1013: POP AF writes A and F. -/
theorem State.popStk_af_sameRegsBut (s : State) : s.sameRegsBut (s.popStk .af) [.a] := fun r hr => by
  have hset : (s.popStk .af).reg r = s.pop16.2.reg r := by
    cases r with
    | a => exact absurd (List.mem_singleton_self _) hr
    | b | c | d | e | h | l => rfl
  exact hset.trans (s.pop16_sameRegsBut r List.not_mem_nil)

/-- Settles O45: a jump is one write of pc, the calls and PUSH have the frame of one push, the returns and POP that of
one pop. -/
theorem frameControl : Obligations.FrameControl := by
  unfold Obligations.FrameControl
  intro s t i ht popped
  refine ⟨?jump, ?push, ?ret, ?notTaken, ?reti, ?popPair, ?popAf⟩
  case jump =>
    rintro ⟨k, a, e, hi⟩
    obtain ⟨pc, h⟩ := exec_jump s hi
    cases h.symm.trans ht
    exact ⟨fun r _ => s.setPc_reg r pc, rfl, rfl, State.sameOutsideRegs_of_regs rfl⟩
  case push =>
    rintro ⟨k, a, y, p, hi⟩
    have hframe : PushFrame s t := by
      rcases hi with rfl | rfl | rfl | rfl
      · cases (exec_callA16 a s).symm.trans ht
        exact pushFrame_call s a
      · cases (exec_callIf k a s).symm.trans ht
        exact pushFrame_callIf s k a
      · cases (exec_rst y s).symm.trans ht
        exact pushFrame_call s _
      · cases (exec_push p s).symm.trans ht
        exact pushFrame_push16 s _
    exact ⟨hframe.regs, hframe.f, hframe.stored⟩
  case ret =>
    intro k hi
    have hret : exec i s = .next s.ret := by
      rcases hi with rfl | ⟨rfl, hk⟩
      · exact exec_ret s
      · rw [exec_retIf, State.retIf, if_pos hk]
    cases hret.symm.trans ht
    have hframe := popFrame_ret s
    exact ⟨hframe.regs, hframe.f, hframe.outside⟩
  case notTaken =>
    rintro k rfl hk
    cases (exec_retIf k s).symm.trans ht
    exact if_neg (Bool.eq_false_iff.1 hk)
  case reti =>
    rintro rfl
    cases (exec_reti s).symm.trans ht
    have hframe := popFrame_ret s
    refine ⟨hframe.regs, hframe.f, ?_⟩
    rw [State.retInterrupt_restored]
    exact hframe.outside
  case popPair =>
    intro p hi
    cases (exec_popPair s hi).symm.trans ht
    have hframe := popFrame_popPair s p
    exact ⟨hframe.regs, hframe.f, by rw [State.setPair_pc, State.pop16_pc], hframe.outside⟩
  case popAf =>
    rintro rfl
    cases (exec_pop .af s).symm.trans ht
    exact ⟨s.popStk_af_sameRegsBut, s.pop16_pc, State.pop16_sameAfterReads rfl⟩

end Sys2Proof.Machine
end

section
/-!
PROOFS. PUSH and POP (spec/46_stack.md R1010 to R1013). PUSH is `State.push16` of the pair's word, POP is `State.pop16`
and a write of the pair, so the bytes come from `State.push16_eq` and `State.pop16_eq`. A pushed word comes back because
the two bytes below SP lie in different cells of RAM: a cell agrees with the addresses that reach it modulo 0x2000.
-/

namespace Sys2Proof.Machine

open Sys2Proof

/-! ### The write of a stack pair -/

@[simp] theorem State.setStk_sp (s : State) (p : RegStk) (v : Word) : (s.setStk p v).regs.sp = s.regs.sp := by
  cases p <;> rfl

/-- R1012: the pairs but AF hold the word written. -/
theorem State.setStk_stk (s : State) {p : RegStk} (v : Word) (hp : p ≠ .af) : (s.setStk p v).stk p = v := by
  cases p with
  | bc => exact s.setPair_pair .bc v
  | de => exact s.setPair_pair .de v
  | hl => exact s.setPair_pair .hl v
  | af => exact absurd rfl hp

theorem wordOf_and (h l h' l' : Byte) : wordOf h l &&& wordOf h' l' = wordOf (h &&& h') (l &&& l') :=
  BitVec.and_append

/-- R1013: AF holds the word written without its low nibble. -/
theorem State.setStk_af_stk (s : State) (v : Word) : (s.setStk .af v).stk .af = v &&& 0xFFF0 := by
  calc (s.setStk .af v).stk .af
      = wordOf (hiByte v) (loByte v &&& 0xF0 &&& 0xF0) := rfl
    _ = wordOf (hiByte v &&& 0xFF) (loByte v &&& 0xF0) := by
      rw [BitVec.and_assoc, BitVec.and_self]
      congr 1
      exact BitVec.and_allOnes.symm
    _ = v &&& 0xFFF0 := by
      rw [← wordOf_and, wordOf_bytes]
      rfl

/-! ### PUSH and POP -/

/-- A push of a word given by its bytes. -/
theorem State.push16_wordOf (s : State) (hi lo : Byte) :
    s.push16 (wordOf hi lo) =
      { (s.memWrite (s.regs.sp - 1) hi).memWrite (s.regs.sp - 2) lo with
        regs := { s.regs with sp := s.regs.sp - 2 } } := by
  rw [State.push16_eq, hiByte_wordOf, loByte_wordOf]

theorem State.push16_sp (s : State) (v : Word) : (s.push16 v).regs.sp = s.regs.sp - 2 := by
  rw [State.push16_eq]

theorem State.popStk_sp (s : State) (p : RegStk) : (s.popStk p).regs.sp = s.regs.sp + 2 := by
  have hsp : (s.popStk p).regs.sp = s.pop16.2.regs.sp := s.pop16.2.setStk_sp p s.pop16.1
  rw [hsp, State.pop16_regs]

/-- Settles O35: the bytes of the pair's word are those that `State.push16` writes and those that `State.pop16` reads. -/
theorem pushPop : Obligations.PushPop := by
  unfold Obligations.PushPop
  intro s p
  refine ⟨fun hi lo hbytes => ?push, _, exec_pop p s, s.popStk_sp p, ?pop⟩
  case push =>
    have hstk : s.stk p = wordOf hi lo := by
      cases p <;> obtain ⟨rfl, rfl⟩ := hbytes <;> rfl
    rw [exec_push, State.pushStk, hstk, State.push16_wordOf]
  case pop =>
    have hvalue := congrArg Prod.fst s.pop16_eq
    have hhi := (congrArg hiByte hvalue).trans (hiByte_wordOf _ _)
    have hlo := (congrArg loByte hvalue).trans (loByte_wordOf _ _)
    cases p with
    | bc | de | hl => exact ⟨hhi, hlo⟩
    | af => exact ⟨hhi, congrArg (· &&& 0xF0) hlo⟩

/-! ### A stack in RAM -/

/-- A RAM cell agrees with every address that reaches it modulo 0x2000, the distance of the echo (R206). -/
theorem busTarget_ram_mod {e : Bool} {a : Word} {k : Nat} (h : busTarget e a = .ram k) :
    k % 0x2000 = a.toNat % 0x2000 := by
  simp only [busTarget] at h
  split_ifs at h
  · -- external RAM
    rw [Target.ram.inj h]
  · -- work RAM
    rw [Target.ram.inj h]
  · -- echo RAM
    have hk := Target.ram.inj h
    omega
  · -- the I/O page reaches no RAM
    split at h <;> cases h
  · -- high RAM
    rw [Target.ram.inj h]

section
variable {s : State} {a b : Word} {j k : Nat}

theorem State.target_ram_ne (ha : s.target a = .ram k) (h : a.toNat % 0x2000 ≠ b.toNat % 0x2000) :
    s.target b ≠ s.target a := by
  intro hb
  exact h ((busTarget_ram_mod ha).symm.trans (busTarget_ram_mod (hb.trans ha)))

/-- A store in RAM changes no byte read at another target. -/
theorem State.memRead_memWrite_ram_other (v : Byte) (ha : s.target a = .ram k) (h : s.target b ≠ s.target a) :
    (s.memWrite a v).memRead b = s.memRead b :=
  State.memWrite_memRead v h (by simp [State.alsoChanges, ha])

/-- A read of RAM has no effect (R218). -/
theorem State.afterRead_ram (ha : s.target a = .ram k) : s.afterRead a = s := by
  rw [State.afterRead, ha, State.afterReadTarget]

/-- After a push to RAM the two bytes of the word stand at SP and above it. -/
theorem State.push16_memRead (v : Word) (hhi : s.target (s.regs.sp - 1) = .ram j)
    (hlo : s.target (s.regs.sp - 2) = .ram k) :
    (s.push16 v).memRead (s.regs.sp - 1) = hiByte v ∧ (s.push16 v).memRead (s.regs.sp - 2) = loByte v := by
  have hread (x : Word) : (s.push16 v).memRead x =
      ((s.memWrite (s.regs.sp - 1) (hiByte v)).memWrite (s.regs.sp - 2) (loByte v)).memRead x := by
    rw [State.push16_eq]
    exact State.memRead_congr rfl rfl rfl rfl rfl rfl rfl rfl rfl rfl x
  have hne : s.target (s.regs.sp - 1) ≠ s.target (s.regs.sp - 2) := State.target_ram_ne hlo (by bv_omega)
  rw [hread, hread]
  refine ⟨?_, State.memRead_memWrite_ram _ (by rwa [State.memWrite_target])⟩
  rw [State.memRead_memWrite_ram_other _ (by rwa [State.memWrite_target]) (by simpa using hne)]
  exact State.memRead_memWrite_ram _ hhi

/-- A pop right after a push to RAM answers the word pushed. -/
theorem State.push16_pop16 (v : Word) (hhi : s.target (s.regs.sp - 1) = .ram j)
    (hlo : s.target (s.regs.sp - 2) = .ram k) : (s.push16 v).pop16.1 = v := by
  have hnext : s.regs.sp - 2 + 1 = s.regs.sp - 1 := by bv_omega
  have hread : (s.push16 v).afterRead (s.regs.sp - 2) = s.push16 v :=
    State.afterRead_ram (k := k) (by rw [State.target, State.push16_params]; exact hlo)
  obtain ⟨hhiByte, hloByte⟩ := State.push16_memRead v hhi hlo
  rw [State.pop16_eq, State.push16_sp, hread, hnext, hhiByte, hloByte, wordOf_bytes]

end

/-- Settles O36: `State.pop16` answers the word that `State.push16` stored, and the pair popped is written with it. -/
theorem pushThenPop : Obligations.PushThenPop := by
  unfold Obligations.PushThenPop
  rintro s p q ⟨j, hhi⟩ ⟨k, hlo⟩
  have hpopped : (s.pushStk p).popStk q = (s.pushStk p).pop16.2.setStk q (s.stk p) :=
    congrArg ((s.pushStk p).pop16.2.setStk q) (State.push16_pop16 (s.stk p) hhi hlo)
  refine ⟨_, _, exec_push p s, exec_pop q _, ?sp, fun hq => ?pair, ?af⟩
  case sp =>
    rw [State.popStk_sp, State.pushStk, State.push16_sp, BitVec.sub_add_cancel]
  case pair =>
    rw [hpopped, State.setStk_stk _ _ hq]
  case af =>
    rintro rfl
    rw [hpopped, State.setStk_af_stk]

end Sys2Proof.Machine
end

section
/-!
PROOFS. The system step (spec/60_exceptions.md R1200 to R1214): what it does in each of its cases, with and without a
HALT-bug refetch, what an interrupt entry is, and what device time leaves to the CPU.
-/

namespace Sys2Proof.Machine

open Sys2Proof

/-! ### An instruction fetched and executed -/

/-- What reads do does not depend on the control state. -/
theorem State.afterReads_withCtl (s : State) (c : Control) (a : Word) (n : Nat) :
    ({ s with ctl := c } : State).afterReads a n = { s.afterReads a n with ctl := c } := by
  induction n generalizing s a with
  | zero => rfl
  | succ n ih => rw [State.afterReads, State.afterRead_withCtl, ih, State.afterReads]

/-- Reading memory looks at no control state. -/
theorem State.memRead_withCtl (s : State) (c : Control) (a : Word) :
    ({ s with ctl := c } : State).memRead a = s.memRead a :=
  s.memRead_withCpu c s.regs a

theorem State.wake_afterReads_memRead (s : State) (a : Word) (n : Nat) (b : Word) :
    (s.wake.afterReads a n).memRead b = (s.afterReads a n).memRead b := by
  rw [State.wake, State.afterReads_withCtl, State.memRead_withCtl]

/-- The state in which the bytes at pc have been fetched, from any control state. -/
theorem State.fetched_withCtl (s : State) (c : Control) (n : Nat) :
    ({ s with ctl := c } : State).fetched n =
      { s.afterReads s.regs.pc n with
        regs := { s.regs with pc := s.regs.pc + BitVec.ofNat 16 n }
        ctl := { c with opcodeAddr := s.regs.pc } } := by
  rw [State.fetched, State.afterReads_withCtl]

/-- The instruction fetched ends the step in its fault, or is followed by the EI countdown and its device time (R1206,
R1208, R1213). -/
theorem State.runInstr_of_exec {s u t : State} {i : Instr} (hfetch : s.fetchDecode = (i, u))
    (hexec : exec i u = .next t) :
    (t.ctl.fault = none → s.runInstr = .next (t.applyEi.runDevices (u.cyclesOf i))) ∧
      (t.ctl.fault ≠ none → s.runInstr = .next t) := by
  rw [State.runInstr, hfetch]
  simp only [hexec, State.finish]
  exact ⟨fun hf => by simp [hf], fun hf => if_pos (Option.isSome_iff_ne_none.2 hf)⟩

/-- Settles O9: the step wakes the machine and runs the instruction that `State.fetchDecode_plain` fetches. -/
theorem stepRunsDecoded : Obligations.StepRunsDecoded := by
  unfold Obligations.StepRunsDecoded
  intro s i rest s1 hfault hdue hidle hskip hdecode s2 t hexec
  have hrun : step s = s1.wake.runInstr := State.systemStep_runs hfault hdue hidle
  have hfetch : s1.wake.fetchDecode = (i, s2) := by
    have hs2 : s1.wake.fetched i.length = s2 := s1.fetched_withCtl _ _
    rw [← hs2]
    refine State.fetchDecode_plain (s := s1.wake) hskip (rest := rest) ?_
    simpa only [State.wake_memRead, State.wake_regs, State.wake_afterReads_memRead] using hdecode
  rw [hrun]
  exact State.runInstr_of_exec hfetch hexec

/-! ### The HALT bug -/

/-- The state after the first fetch of a HALT-bug refetch: the byte at pc is read, pc stays, and the opcode's address is
latched (R1111). -/
def State.refetched (s : State) : State :=
  { s.afterRead s.regs.pc with ctl := { s.ctl with haltSkip := false, opcodeAddr := s.regs.pc } }

theorem State.refetched_pc (s : State) : s.refetched.regs.pc = s.regs.pc := congrArg Regs.pc (s.afterRead_regs _)

theorem State.refetched_memRead (s : State) (a : Word) : s.refetched.memRead a = (s.afterRead s.regs.pc).memRead a :=
  State.memRead_withCtl _ _ a

theorem State.refetched_afterRead_memRead (s : State) (a b : Word) :
    (s.refetched.afterRead a).memRead b = ((s.afterRead s.regs.pc).afterRead a).memRead b := by
  rw [State.refetched, State.afterRead_withCtl, State.memRead_withCtl]

/-- The later bytes of a refetched instruction are fetched from pc on, so its first byte once more. -/
theorem State.refetched_fetched (s : State) (n : Nat) :
    s.refetched.fetched n =
      { (s.afterRead s.regs.pc).afterReads s.regs.pc n with
        regs := { s.regs with pc := s.regs.pc + BitVec.ofNat 16 n }
        ctl := { s.ctl with haltSkip := false, opcodeAddr := s.regs.pc } } := by
  rw [State.refetched, State.fetched_withCtl, State.afterRead_regs]

theorem State.fetch8_haltSkip {s : State} (h : s.ctl.haltSkip = true) :
    ({ s with ctl := { s.ctl with opcodeAddr := s.regs.pc } } : State).fetch8 =
      (s.memRead s.regs.pc, s.refetched.fetched 0) := by
  rw [State.refetched_fetched]
  unfold State.fetch8
  simp [h, State.memRead_withCtl, State.afterRead_withCtl, State.afterReads]

/-- With a refetch pending, fetch and decode give the instruction of the bytes at pc, pc and pc + 1, and the state one
byte less far (R1111). -/
theorem State.fetchDecode_haltSkip {s : State} (h : s.ctl.haltSkip = true) {i : Instr} {rest : List Byte}
    (hd : decode [s.memRead s.regs.pc, s.refetched.memRead s.regs.pc,
      (s.refetched.afterRead s.regs.pc).memRead (s.regs.pc + 1)] = .ok (i, rest)) :
    s.fetchDecode = (i, s.refetched.fetched (i.length - 1)) := by
  have hplain : s.refetched.ctl.haltSkip = false := rfl
  have hsecond : (s.refetched.fetched 0).fetch8 = (s.refetched.memRead s.regs.pc, s.refetched.fetched 1) := by
    rw [State.fetch8_fetched hplain, s.refetched_pc]
    simp [State.afterReads]
  have hthird : (s.refetched.fetched 1).fetch8 =
      ((s.refetched.afterRead s.regs.pc).memRead (s.regs.pc + 1), s.refetched.fetched 2) := by
    rw [State.fetch8_fetched hplain, s.refetched_pc]
    rfl
  have hform := formOf_agrees (s.memRead s.regs.pc)
  unfold State.fetchDecode
  simp only [State.fetch8_haltSkip h]
  rcases decode_cons_cases hd with
      ⟨hf, -⟩ | ⟨k, n, hf, rfl, hn⟩ | ⟨k, lo, hi, hf, rfl, hn⟩ | ⟨op2, hf, rfl, hn⟩ <;>
    rw [hf] at hform ⊢
  · obtain ⟨hencode, -⟩ := hform
    simp [Instr.length, hencode]
  · obtain ⟨hencode, -⟩ := hform n
    obtain ⟨rfl, -⟩ := List.cons.inj hn
    simp [Instr.length, hencode, hsecond]
  · obtain ⟨hencode, -⟩ := hform (wordOf hi lo)
    obtain ⟨rfl, htail⟩ := List.cons.inj hn
    obtain ⟨rfl, -⟩ := List.cons.inj htail
    have hlength : Instr.length _ = 3 := congrArg List.length hencode
    simp only [hlength, hsecond, hthird]
  · obtain ⟨rfl, -⟩ := List.cons.inj hn
    simp [Instr.length, (cbOf_encode _).1, hsecond]

/-- No instruction is empty (R300). -/
theorem instrLength_pos (i : Instr) : 0 < i.length := by
  cases i <;> exact Nat.zero_lt_succ _

/-- Settles O10: as O9, by the instruction that `State.fetchDecode_haltSkip` fetches. -/
theorem stepHaltBug : Obligations.StepHaltBug := by
  unfold Obligations.StepHaltBug
  intro s i rest s1 hfault hdue hidle hskip s1' hdecode s2 t hexec
  have hrun : step s = s1.wake.runInstr := State.systemStep_runs hfault hdue hidle
  have hread : s1.wake.afterRead s1.regs.pc = { s1' with ctl := s1.wake.ctl } := State.afterRead_withCtl _ _ _
  have hpc : s1.regs.pc + BitVec.ofNat 16 (i.length - 1) = s1.regs.pc + BitVec.ofNat 16 i.length - 1 := by
    have := instrLength_pos i
    bv_omega
  have hfetch : s1.wake.fetchDecode = (i, s2) := by
    have hs2 : s1.wake.refetched.fetched (i.length - 1) = s2 := by
      rw [State.refetched_fetched, State.wake_regs, hread, State.afterReads_withCtl, hpc]
      rfl
    rw [← hs2]
    refine State.fetchDecode_haltSkip (s := s1.wake) hskip (rest := rest) ?_
    rw [State.refetched_memRead, State.refetched_afterRead_memRead, State.wake_regs, hread, State.wake_memRead,
      State.memRead_withCtl, State.afterRead_withCtl, State.memRead_withCtl]
    exact hdecode
  rw [hrun]
  exact State.runInstr_of_exec hfetch hexec

/-! ### Every step answers a next state -/

/-- What device time leaves to the CPU, whatever the number of cycles. -/
theorem State.runDevices_keeps (s : State) (c : Nat) : DeviceKeeps s (s.runDevices c) :=
  ((DeviceKeeps.rounds State.tickTimers_keeps c s).trans (DeviceKeeps.rounds State.ppuDot_keeps (4 * c) _)).trans
    (DeviceKeeps.rounds State.dmaDot_keeps (4 * c) _)

/-- Settles O14, by what each of the three loops keeps. -/
theorem deviceTimeKeepsCpu : Obligations.DeviceTimeKeepsCpu := by
  unfold Obligations.DeviceTimeKeepsCpu
  intro s c
  have hkeeps := s.runDevices_keeps c
  exact ⟨hkeeps.regs, hkeeps.ctl, hkeeps.intEnable, hkeeps.params, hkeeps.ifGrows⟩

theorem State.runInstr_next (s : State) : ∃ t, s.runInstr = .next t ∧ t.params = s.params := by
  obtain ⟨u, hexec, hkeeps⟩ := exec_keeps s.fetchDecode.1 s.fetchDecode.2
  have hparams : u.params = s.params := hkeeps.params.trans (cpuKeeps_fetchDecode s).params
  obtain ⟨hruns, hfaults⟩ := State.runInstr_of_exec rfl hexec
  by_cases hfault : u.ctl.fault = none
  · exact ⟨_, hruns hfault, by rw [(State.runDevices_keeps _ _).params, State.applyEi_params, hparams]⟩
  · exact ⟨u, hfaults hfault, hparams⟩

theorem State.systemStep_next (s : State) : ∃ t, s.systemStep = .next t ∧ t.params = s.params := by
  by_cases hfault : s.ctl.fault = none
  · cases hdue : s.takeInput.interruptDue with
    | some i => exact ⟨_, State.systemStep_interrupt hfault hdue, by simp [(State.runDevices_keeps _ _).params]⟩
    | none =>
      cases hidle : s.takeInput.idles with
      | true => exact ⟨_, State.systemStep_idle hfault hdue hidle, by simp [(State.runDevices_keeps _ _).params]⟩
      | false =>
        obtain ⟨t, hrun, hparams⟩ := s.takeInput.wake.runInstr_next
        exact ⟨t, (State.systemStep_runs hfault hdue hidle).trans hrun, by simp [hparams]⟩
  · exact ⟨s, State.systemStep_faulted hfault, rfl⟩

/-- Settles O4: `State.systemStep_next`, and a faulted machine's step answers the machine itself. -/
theorem stepTotal : Obligations.StepTotal := by
  unfold Obligations.StepTotal
  intro s
  obtain ⟨t, hstep, hparams⟩ := s.systemStep_next
  refine ⟨t, hstep, hparams, fun f hfault => ?_⟩
  have hfaulted := State.systemStep_faulted (s := s) (by simp [hfault])
  cases hstep.symm.trans hfaulted
  rfl

/-! ### The EI countdown -/

theorem State.applyEi_eq (s : State) :
    s.applyEi =
      { s with
        ctl := { s.ctl with
          imeDelay := s.ctl.imeDelay - 1
          ime := s.ctl.ime || decide (s.ctl.imeDelay = 1) } } := by
  unfold State.applyEi
  split
  next hzero =>
    have hdelay : s.ctl.imeDelay - 1 = s.ctl.imeDelay := by omega
    have hime : (s.ctl.ime || decide (s.ctl.imeDelay = 1)) = s.ctl.ime := by simp [hzero]
    rw [hdelay, hime]
  next =>
    split
    next hone => simp [hone]
    next hone => simp [hone]

theorem exec_ei (s : State) : exec .ei s = .next s.armIme := rfl

/-- Settles O15, by the one equation of the countdown. -/
theorem eiCountdown : Obligations.EiCountdown := by
  unfold Obligations.EiCountdown
  refine ⟨exec_ei, State.applyEi_eq, fun s harmed => ?_⟩
  simp [State.applyEi_eq, harmed]

/-! ### Interrupts -/

/-- The sources are listed in the order of their bits, so the first one pending is the lowest (R1203). -/
theorem firstPending_eq_some (p : BitVec 5) (i : IntSource) :
    (IntSource.all.find? fun i => p.getLsbD i.index) = some i ↔
      p.getLsbD i.index = true ∧ ∀ j, j < i.index → p.getLsbD j = false := by
  revert p
  cases i <;> simp only [IntSource.index] <;> decide

theorem firstPending_eq_none (p : BitVec 5) :
    (IntSource.all.find? fun i => p.getLsbD i.index) = none ↔ p = 0 := by
  revert p
  decide

theorem State.pending_bit (s : State) {k : Nat} (h : k < 5) :
    s.pending.getLsbD k = (s.intEnable.getLsbD k && s.intFlag.getLsbD k) := by
  simp [State.pending, h]

theorem IntSource.index_lt (i : IntSource) : i.index < 5 := by cases i <;> decide

theorem State.interruptDue_eq_some (s : State) (i : IntSource) :
    s.interruptDue = some i ↔
      s.ctl.ime = true ∧ s.pending.getLsbD i.index = true ∧ ∀ j, j < i.index → s.pending.getLsbD j = false := by
  unfold State.interruptDue State.firstPending
  split
  next hime => simp [hime, firstPending_eq_some]
  next hime => simp [hime]

theorem State.interruptDue_eq_none (s : State) : s.interruptDue = none ↔ s.ctl.ime = false ∨ s.pending = 0 := by
  unfold State.interruptDue State.firstPending
  split
  next hime => rw [firstPending_eq_none, hime]; simp
  next hime => simp [hime]

/-- Settles O11: the source due is the first pending one, and bit k of pending is bit k of both IE and IF. -/
theorem interruptPriority : Obligations.InterruptPriority := by
  unfold Obligations.InterruptPriority
  refine fun s => ⟨fun i => ?_, s.interruptDue_eq_none⟩
  have hlower : ∀ j, j < i.index → s.pending.getLsbD j = (s.intEnable.getLsbD j && s.intFlag.getLsbD j) :=
    fun j hj => s.pending_bit (hj.trans i.index_lt)
  rw [s.interruptDue_eq_some, s.pending_bit i.index_lt, Bool.and_eq_true, and_assoc]
  simp +contextual [hlower]

/-- Settles O12: the push of `State.push16_eq`, and pc at the vector. -/
theorem interruptEntry : Obligations.InterruptEntry := by
  unfold Obligations.InterruptEntry
  refine ⟨fun s i hfault hdue => State.systemStep_interrupt hfault hdue, fun s i => ?_⟩
  intro s1 s2
  have hdispatch : s.dispatch i = (s1.push16 s.regs.pc).setPc i.vector := rfl
  rw [hdispatch, State.push16_eq]
  rfl

theorem State.dispatch_regs (s : State) (i : IntSource) :
    (s.dispatch i).regs = { s.regs with sp := s.regs.sp - 2, pc := i.vector } := by
  simp [State.dispatch, State.push16_eq, State.setPc]

theorem State.dispatch_ctl (s : State) (i : IntSource) :
    (s.dispatch i).ctl = { s.ctl with ime := false, imeDelay := 0, halted := false } := by
  simp [State.dispatch]

/-- Settles O13: the registers and the control state that an entry and an idle step leave, which device time keeps. -/
theorem stepsWithoutFetch : Obligations.StepsWithoutFetch := by
  unfold Obligations.StepsWithoutFetch
  refine fun s hfault => ⟨fun i hdue => ?_, fun hhalted hnone => ?_⟩
  · have hkeeps := (s.takeInput.dispatch i).runDevices_keeps 5
    have hregs :
        ((s.takeInput.dispatch i).runDevices 5).regs = { s.regs with sp := s.regs.sp - 2, pc := i.vector } := by
      rw [hkeeps.regs, State.dispatch_regs, State.takeInput_regs]
    refine ⟨_, State.systemStep_interrupt hfault hdue, ?_⟩
    rw [hregs, hkeeps.ctl, State.dispatch_ctl]
    refine ⟨rfl, rfl, fun r _ => ?_, rfl, rfl, rfl, rfl⟩
    cases r <;> simp [State.reg, hregs]
  · have hidle : s.takeInput.idles = true := by simp [State.idles, State.pending, hhalted, ← hnone]
    have hdue : s.takeInput.interruptDue = none := s.takeInput.interruptDue_eq_none.2 (.inr hnone)
    have hstep : step s = .next (s.takeInput.applyEi.runDevices 1) := State.systemStep_idle hfault hdue hidle
    refine ⟨hstep, fun t ht => ?_⟩
    cases hstep.symm.trans ht
    have hkeeps := s.takeInput.applyEi.runDevices_keeps 1
    rw [hkeeps.regs, hkeeps.ctl]
    exact ⟨by simp, by simp [State.applyEi_eq, hhalted]⟩

end Sys2Proof.Machine
end

section
/-!
PROOFS. The system instructions (spec/47_misc.md R1110 to R1117): each is one change of the control state or of F, and
the escape byte 0xCB executes the CB row of the byte after it.
-/

namespace Sys2Proof.Machine

open Sys2Proof

/-! ### NOP, DI, SCF, CCF, HALT and STOP -/

theorem exec_nop (s : State) : exec .nop s = .next s := rfl
theorem exec_di (s : State) : exec .di s = .next (s.setIme false) := rfl
theorem exec_halt (s : State) : exec .halt s = .next s.halt := rfl
theorem exec_stop (b : Byte) (s : State) : exec (.stop b) s = .next s.stop := rfl

/-- R1115, R1116: the new carry, N = H = 0, and Z outside the mask. -/
theorem State.merge_carryFlags_flags (s : State) (carry : Bool) :
    (s.merge (carryFlags carry)).flagsAre s.flagZ false false carry :=
  State.merge_nhc s (carryFlags carry).value false false false carry

/-- The HALT bug (R1111). -/
theorem State.halt_of_bug {s : State} (hbug : s.params.haltBug = true) (hime : s.ctl.ime = false)
    (hpending : s.pending ≠ 0) : s.halt = { s with ctl := { s.ctl with haltSkip := true } } := by
  have hcond : (s.params.haltBug && !s.ctl.ime && s.pending != 0) = true := by
    rw [hbug, hime, bne_iff_ne.2 hpending]
    rfl
  rw [State.halt, if_pos hcond]

theorem State.halt_of_no_bug {s : State} (h : s.params.haltBug = false ∨ s.ctl.ime = true ∨ s.pending = 0) :
    s.halt = s.enterHalt := by
  unfold State.halt
  rcases h with hbug | hime | hnone
  · simp [hbug]
  · simp [hime]
  · simp [hnone]

theorem State.stop_of_asHalt {s : State} (h : s.params.stopBehaviour = .asHalt) : s.stop = s.enterHalt := by
  rw [State.stop, h]

theorem State.stop_of_fault {s : State} (h : s.params.stopBehaviour = .fault) : s.stop = s.raise 0x10 := by
  rw [State.stop, h]

/-- Settles O37, HALT and STOP by the settings of their parameters. -/
theorem systemInstructions : Obligations.SystemInstructions := by
  unfold Obligations.SystemInstructions
  intro s b
  refine ⟨exec_nop s, exec_di s, ⟨_, exec_scf s, rfl, s.merge_carryFlags_flags true⟩,
    ⟨_, exec_ccf s, rfl, s.merge_carryFlags_flags (!s.flagC)⟩, fun hbug hime hpending => ?_, fun h => ?_,
    fun h => ?_, fun h => ?_⟩
  · rw [exec_halt, State.halt_of_bug hbug hime hpending]
  · rw [exec_halt, State.halt_of_no_bug h, State.enterHalt]
  · rw [exec_stop, State.stop_of_asHalt h, State.enterHalt]
  · rw [exec_stop, State.stop_of_fault h, State.raise]

/-! ### The escape byte 0xCB -/

/-- The three fields of a byte (R301). -/
theorem byte_fields (b : Byte) :
    b = (b.extractLsb' 6 2 : BitVec 2) ++ (b.extractLsb' 3 3 : BitVec 3) ++ (b.extractLsb' 0 3 : BitVec 3) := by
  revert b
  decide

theorem shiftOp_field (y : BitVec 3) :
    [ShiftOp.rlc, .rrc, .rl, .rr, .sla, .sra, .swap, .srl][y.toNat]? = some (shiftOp y) := by
  revert y
  decide

/-- The CB row of a byte executes what the escape does with that byte, group by group (R308, R1117). -/
theorem exec_cbOf (b : Byte) (s : State) : exec (cbOf b) s = .next (s.prefixed b) := by
  have hrow : cbOf b = .cbField (b.extractLsb' 6 2) (b.extractLsb' 3 3) (b.extractLsb' 0 3) := by
    rw [Instr.cbField, ← byte_fields]
  rw [hrow, State.prefixed]
  generalize (b.extractLsb' 6 2 : BitVec 2) = x
  rcases two_bits x with rfl | rfl | rfl | rfl
  · exact exec_cbShift _ _ _ (shiftOp_field _) s
  · exact exec_cbBit _ _ s
  · exact exec_cbRes _ _ s
  · exact exec_cbSet _ _ s

theorem exec_prefixCb (b : Byte) (s : State) : exec (.prefixCb b) s = .next (s.prefixed b) := rfl

/-- Settles O31: both spellings execute `State.prefixed` of the second byte. -/
theorem prefixExecutes : Obligations.PrefixExecutes := by
  unfold Obligations.PrefixExecutes
  exact fun s b => ⟨(exec_prefixCb b s).trans (exec_cbOf b s).symm, _, exec_prefixCb b s⟩

end Sys2Proof.Machine
end

section
/-!
PROOFS. The reset table (spec/70_reset_and_hazards.md R1501): every launch starts from the fields of State.reset that
the table names, and its ROM reads the cartridge image.
-/

namespace Sys2Proof.Machine

/-- With the default ResetRegs: F's low nibble is 0 already (R1501, R1502). -/
theorem Launch.reset_regs {l : Launch} (h : l.regs = Regs.reset) : l.reset.regs = Regs.reset := by
  unfold Launch.reset
  rw [h]
  rfl

/-- Nothing is requested, and IF's unused bits read 1 (R114). -/
theorem Launch.reset_readIf (l : Launch) : l.reset.readIf = 0xE0 :=
  show State.reset.readIf = 0xE0 by decide

/-- Mode 2, and LY = LYC (R119). -/
theorem Launch.reset_stat (l : Launch) : l.reset.lcd.stat = 0x86 :=
  show Lcd.reset.stat = 0x86 by decide

/-- ROM reads the image's bytes, and 0xFF past its end (R202). -/
theorem Launch.reset_image (l : Launch) {a : Nat} (h : a < 0x8000) : l.reset.mem.read a = l.image.getD a 0xFF :=
  (l.reset_rom h).trans (romFrom_read l.image (Nat.zero_le a) h)

/-- Settles O1: the registers and the ROM by their lemmas, every other row a field of State.reset that no launch
changes. -/
theorem resetTable : Obligations.ResetTable := by
  unfold Obligations.ResetTable
  intro l hregs s
  refine ⟨Launch.reset_regs hregs, rfl, rfl, rfl, rfl, rfl, rfl, l.reset_readIf, rfl, ?_⟩
  refine ⟨rfl, rfl, l.reset_stat, rfl, rfl, rfl, rfl, rfl, rfl, rfl, rfl, ?_⟩
  refine ⟨rfl, rfl, rfl, rfl, rfl, rfl, rfl, rfl, rfl, rfl, rfl, rfl, rfl, rfl, rfl, rfl, rfl,
    rfl, rfl, rfl, rfl, rfl, ?_⟩
  exact ⟨rfl, fun a ha => l.reset_image ha, rfl, rfl, rfl, rfl⟩

end Sys2Proof.Machine
end

section
/-!
PROOFS. The default devices (spec/60_exceptions.md R1461 to R1463): with the default fitted an access to one of its
registers is the device's own read or write, and a request sets the device's bit of IF.
-/

namespace Sys2Proof.Machine

/-! ### Access to a default device -/

section
variable {s : State} {r : IoReg} {d : DeviceKind} {n : Nat}

theorem State.port_of_default (hr : r.port = some (d, n)) (hd : s.params.device d = .default) : s.port r = none := by
  simp [State.port, hr, hd]

theorem State.memRead_default (hr : r.port = some (d, n)) (hd : s.params.device d = .default) :
    s.memRead r.addr = s.readOwn r := by
  simp [State.memRead, State.readTarget, State.readIo, State.port_of_default hr hd]

theorem State.memWrite_default (v : Byte) (hr : r.port = some (d, n)) (hd : s.params.device d = .default) :
    s.memWrite r.addr v = s.writeOwn r v := by
  simp [State.memWrite, State.writeTarget, State.writeIo, State.port_of_default hr hd]

end

/-! ### The timer -/

/-- The selected counter bit, by TAC[1:0] as a number. -/
theorem Timer.bit_eq (t : Timer) : t.bit = [9, 3, 5, 7].getD (t.tac.toNat % 4) 0 := by
  unfold Timer.bit
  generalize t.tac = x
  revert x
  decide

/-- TAC's unused bits read 1. -/
theorem Timer.readTac_eq (t : Timer) : t.readTac = 0b11111#5 ++ t.tac := by
  unfold Timer.readTac
  generalize t.tac = x
  revert x
  decide

/-- The timer after a tick or a write, its increment and its request written out. -/
theorem State.setTimer_settle (s : State) (u : Timer) :
    s.setTimer (s.timer.settle u) =
      if s.timer.sig && !u.sig then
        if u.tima = 0xFF then
          { s with timer := { u with tima := u.tma }, intFlag := s.intFlag ||| 0b00100 }
        else { s with timer := { u with tima := u.tima + 1 } }
      else { s with timer := u } := by
  unfold Timer.settle Timer.increment
  split
  · split <;> rfl
  · rfl

theorem State.tickTimer_default {s : State} (hd : s.params.timerDevice = .default) :
    s.tickTimer = s.setTimer s.timer.tick := by
  rw [State.tickTimer, hd]

/-- Settles O51: each write and the tick settle the timer they make. -/
theorem timerDevice : Obligations.TimerDevice := by
  unfold Obligations.TimerDevice
  intro s v hd sig settled
  have hsettled (u : Timer) : s.setTimer (s.timer.settle u) = settled u := by
    have hsig (t : Timer) : t.sig = sig t := by rw [Timer.sig, Timer.bit_eq]
    rw [s.setTimer_settle, hsig, hsig]
  refine ⟨rfl, ?_, ?_, ?_, ?_, ?_, ?_, ?_, ?_, ?_⟩
  · exact State.memRead_default (r := .div) rfl hd
  · exact State.memRead_default (r := .tima) rfl hd
  · exact State.memRead_default (r := .tma) rfl hd
  · exact (State.memRead_default (r := .tac) rfl hd).trans s.timer.readTac_eq
  · exact (State.memWrite_default (r := .div) v rfl hd).trans (hsettled _)
  · exact (State.memWrite_default (r := .tima) v rfl hd).trans (hsettled _)
  · exact (State.memWrite_default (r := .tma) v rfl hd).trans (hsettled _)
  · exact (State.memWrite_default (r := .tac) v rfl hd).trans (hsettled _)
  · exact (State.tickTimer_default hd).trans (hsettled _)

/-! ### The joypad -/

theorem nibble_bit (b3 b2 b1 b0 : Bool) {k : Nat} (h : k < 4) :
    (nibble b3 b2 b1 b0).getLsbD k = [b0, b1, b2, b3].getD k false := by
  interval_cases k <;> revert b3 b2 b1 b0 <;> decide

/-- A group whose select bit is 1 counts as not pressed. -/
theorem unselected_bit (sel : Bool) (x : BitVec 4) (k : Nat) :
    (if sel then 0 else x).getLsbD k = (!sel && x.getLsbD k) := by
  cases sel <;> simp

/-- A low bit is 0 for a pressed button of a selected group. -/
theorem Joypad.low_bit (j : Joypad) {k : Nat} (h : k < 4) :
    j.low.getLsbD k =
      !((!j.sel.getLsbD 0 && [j.pressed.right, j.pressed.left, j.pressed.up, j.pressed.down].getD k false) ||
        (!j.sel.getLsbD 1 && [j.pressed.a, j.pressed.b, j.pressed.select, j.pressed.start].getD k false)) := by
  rw [Joypad.low, BitVec.getLsbD_not, BitVec.getLsbD_or, unselected_bit, unselected_bit, Buttons.dirs, Buttons.btns,
    nibble_bit _ _ _ _ h, nibble_bit _ _ _ _ h]
  simp only [h, decide_true, Bool.true_and]

theorem Joypad.read_eq (j : Joypad) : j.read = 0b11#2 ++ j.sel ++ j.low := by
  unfold Joypad.read
  generalize j.sel = x
  generalize j.low = y
  revert x y
  decide

theorem Joypad.read_bit (j : Joypad) {k : Nat} (h : k < 4) : j.read.getLsbD k = j.low.getLsbD k := by
  rw [Joypad.read_eq, BitVec.getLsbD_append, if_pos h]

theorem Joypad.read_high (j : Joypad) : j.read.extractLsb' 4 4 = 0b11#2 ++ j.sel := by
  rw [Joypad.read_eq]
  generalize j.sel = x
  generalize j.low = y
  revert x y
  decide

/-- Some bit is 1 in x and 0 in y. -/
theorem some_bit_falls (x y : BitVec 4) :
    (x &&& ~~~y != 0) = [0, 1, 2, 3].any fun k => x.getLsbD k && !y.getLsbD k := by
  revert x y
  decide

/-- The joypad after a change, its request written out. -/
theorem State.setJoypad_settle (s : State) (j : Joypad) :
    s.setJoypad (s.joypad.settle j) =
      { s with
        joypad := j
        intFlag :=
          if [0, 1, 2, 3].any fun k => s.joypad.low.getLsbD k && !j.low.getLsbD k then s.intFlag ||| 0b10000
          else s.intFlag } := by
  rw [Joypad.settle, some_bit_falls]
  cases [0, 1, 2, 3].any fun k => s.joypad.low.getLsbD k && !j.low.getLsbD k <;> rfl

theorem State.press_default {s : State} (hd : s.params.joypadDevice = .default) (p : Buttons) :
    s.press p = s.setJoypad (s.joypad.press p) := by
  rw [State.press, hd]

/-- Settles O52: a select write and a host input settle the joypad they make. -/
theorem joypadDevice : Obligations.JoypadDevice := by
  unfold Obligations.JoypadDevice
  intro s v p hd low falls changed
  have hlow (j : Joypad) {k : Nat} (hk : k < 4) : j.low.getLsbD k = low j k := j.low_bit hk
  have hchanged (j : Joypad) : s.setJoypad (s.joypad.settle j) = changed j := by
    have hfalls : ([0, 1, 2, 3].any fun k => s.joypad.low.getLsbD k && !j.low.getLsbD k) = falls j := by
      simp only [falls, List.any_cons, List.any_nil, hlow, Nat.reduceLT]
    rw [s.setJoypad_settle, hfalls]
  refine ⟨rfl, fun k hk => ?_, ?_, ?_, fun rest => ?_⟩
  · rw [← hlow _ hk, ← s.joypad.read_bit hk]
    exact congrArg (BitVec.getLsbD · k) (State.memRead_default (r := .p1) rfl hd)
  · rw [← s.joypad.read_high]
    exact congrArg (BitVec.extractLsb' 4 4) (State.memRead_default (r := .p1) rfl hd)
  · exact (State.memWrite_default (r := .p1) v rfl hd).trans (hchanged _)
  · have hpress :
        ({ s with hostInputs := p :: rest } : State).takeInput = ({ s with hostInputs := rest } : State).press p := rfl
    rw [hpress, State.press_default (s := { s with hostInputs := rest }) hd, ← hchanged, s.setJoypad_settle]
    exact State.setJoypad_settle _ _

/-! ### The serial unit -/

/-- SC's unused bits read 1. -/
theorem Serial.readSc_eq (u : Serial) :
    u.readSc = BitVec.ofBool u.scStart ++ 0b111111#6 ++ BitVec.ofBool u.scClock := by
  unfold Serial.readSc
  cases u.scStart <;> cases u.scClock <;> decide

theorem State.tickSerial_default {s : State} (hd : s.params.serialDevice = .default) :
    s.tickSerial = s.setSerial s.serial.tick := by
  rw [State.tickSerial, hd]

/-- Settles O53, the tick by how many cycles the transfer has left. -/
theorem serialDevice : Obligations.SerialDevice := by
  unfold Obligations.SerialDevice
  intro s v hd
  refine ⟨rfl, ?_, ?_, ?_, ?_, fun hleft => ?_, fun hleft => ?_, fun hleft => ?_⟩
  · exact State.memRead_default (r := .sb) rfl hd
  · exact (State.memRead_default (r := .sc) rfl hd).trans s.serial.readSc_eq
  · exact State.memWrite_default (r := .sb) v rfl hd
  · refine (State.memWrite_default (r := .sc) v rfl hd).trans ?_
    simp [State.writeOwn, Serial.writeSc]
  · simp [State.tickSerial_default hd, Serial.tick, hleft, State.setSerial]
  · have hmany : s.serial.left ≠ 0 ∧ s.serial.left ≠ 1 := by omega
    simp [State.tickSerial_default hd, Serial.tick, hmany, State.setSerial]
  · simp [State.tickSerial_default hd, Serial.tick, hleft, State.setSerial]
    rfl

end Sys2Proof.Machine
end

section
/-!
PROOFS. OAM DMA (spec/60_exceptions.md R1401 to R1403): four dots copy one byte, and by induction on the bytes a
transfer copies its page into OAM and changes nothing else but the count of draws.
-/

namespace Sys2Proof.Machine

/-! ### The start -/

theorem State.memWrite_dma (s : State) (v : Byte) : s.memWrite 0xFF46 v = s.startDma v :=
  s.memWrite_own (r := .dma) v rfl

/-! ### What a DMA reads -/

/-- Below OAM an address reaches nothing, or a memory cell below OAM (R201). -/
theorem busTarget_below_oam (e : Bool) {a : Word} (h : a.toNat < 0xFE00) :
    busTarget e a = .openBus ∨
      ∃ k, k < 0xFE00 ∧ (busTarget e a = .rom k ∨ busTarget e a = .vram k ∨ busTarget e a = .ram k) := by
  by_cases hrom : a.toNat < 0x8000
  · exact .inr ⟨_, h, .inl (busTarget_rom hrom)⟩
  by_cases hvram : a.toNat < 0xA000
  · exact .inr ⟨_, h, .inr (.inl (busTarget_vram (by omega) hvram))⟩
  by_cases hext : a.toNat < 0xC000
  · rw [busTarget_ext (by omega) hext]
    cases e
    · exact .inl rfl
    · exact .inr ⟨_, h, .inr (.inr rfl)⟩
  by_cases hwram : a.toNat < 0xE000
  · exact .inr ⟨_, h, .inr (.inr (busTarget_wram (by omega) hwram))⟩
  · exact .inr ⟨_, by omega, .inr (.inr (busTarget_echo (by omega) h))⟩

/-- Below OAM a DMA reads open bus, or one memory cell below OAM, whatever the locks (R1403). -/
theorem State.dmaBusRead_cases (s : State) {a : Word} (h : a.toNat < 0xFE00) :
    (s.target a = .openBus ∧ s.dmaBusRead a = 0xFF) ∨
      ∃ k, k < 0xFE00 ∧ (s.target a = .rom k ∨ s.target a = .vram k ∨ s.target a = .ram k) ∧
        s.dmaBusRead a = s.mem.read k := by
  unfold State.dmaBusRead
  rcases busTarget_below_oam s.params.extRamPresent h with hopen | ⟨k, hk, hcell⟩
  · have ht : s.target a = .openBus := hopen
    exact .inl ⟨ht, by rw [ht]⟩
  · have ht : s.target a = .rom k ∨ s.target a = .vram k ∨ s.target a = .ram k := hcell
    refine .inr ⟨k, hk, ht, ?_⟩
    rcases ht with ht | ht | ht <;> rw [ht]

/-- Below OAM a DMA reads what the CPU reads with every lock open (R213, R1403). -/
theorem State.dmaBusRead_eq_memRead (s : State) {a : Word} (h : a.toNat < 0xFE00) (hvram : s.ppu.vramLock = false) :
    s.dmaBusRead a = s.memRead a := by
  unfold State.memRead
  rcases s.dmaBusRead_cases h with ⟨ht, hread⟩ | ⟨k, -, ht | ht | ht, hread⟩ <;>
    simp [hread, ht, State.readTarget, hvram]

/-- What a DMA reads below OAM depends on the parameters and on memory below OAM alone. -/
theorem State.dmaBusRead_congr {s t : State} (hparams : t.params = s.params)
    (hmem : ∀ k, k < 0xFE00 → t.mem.read k = s.mem.read k) {a : Word} (h : a.toNat < 0xFE00) :
    t.dmaBusRead a = s.dmaBusRead a := by
  have htarget : t.target a = s.target a := by rw [State.target, State.target, hparams]
  rcases s.dmaBusRead_cases h with ⟨ht, hread⟩ | ⟨k, hk, ht | ht | ht, hread⟩ <;>
    rw [hread, State.dmaBusRead, htarget, ht]
  all_goals exact hmem k hk

/-! ### One byte -/

/-- A copy starts the count of dots anew, whatever it was. -/
theorem State.dmaCopy_withSub (s : State) (n : Nat) :
    State.dmaCopy { s with dma := { s.dma with sub := n } } = s.dmaCopy := by
  unfold State.dmaCopy State.dmaRead
  simp only
  split <;> rfl

/-- Three dots count, the fourth copies (R1402). -/
theorem State.dmaDot_four {s : State} (hactive : s.dma.active = true) (hsub : s.dma.sub = 0) :
    repeatTimes 4 State.dmaDot s = s.dmaCopy := by
  have hcount (n : Nat) (hn : n + 1 ≠ 4) :
      State.dmaDot { s with dma := { s.dma with sub := n } } = { s with dma := { s.dma with sub := n + 1 } } := by
    simp [State.dmaDot, hactive, hn]
  have hcopy : State.dmaDot { s with dma := { s.dma with sub := 3 } } = s.dmaCopy :=
    Eq.trans (by simp [State.dmaDot, hactive]) (s.dmaCopy_withSub 3)
  have hstart : s = { s with dma := { s.dma with sub := 0 } } := by rw [← hsub]
  calc repeatTimes 4 State.dmaDot s
      = State.dmaDot (State.dmaDot (State.dmaDot (State.dmaDot { s with dma := { s.dma with sub := 0 } }))) := by
        rw [← hstart]
        rfl
    _ = s.dmaCopy := by rw [hcount 0 (by decide), hcount 1 (by decide), hcount 2 (by decide), hcopy]

/-- The i-th byte of a transfer from page v that a write in s starts: read from the bus, or a draw (R1403). -/
def State.dmaByte (s : State) (v : Byte) (i : Nat) : Byte :=
  if v.toNat < 0xFE then s.dmaBusRead (BitVec.ofNat 16 (256 * v.toNat + i)) else Config.dmaHighSource (s.draws + i)

/-- How many draws the first k bytes from page v take (R1403). -/
def dmaDraws (v : Byte) (k : Nat) : Nat := if v.toNat < 0xFE then 0 else k

/-- t is what a transfer from page v, started in s, has left after its first k bytes: they are in OAM, and nothing
else has changed. -/
structure State.DmaCopied (s : State) (v : Byte) (k : Nat) (t : State) : Prop where
  only :
    t = { s.startDma v with
      dma := ⟨!(k == 160), wordOf v 0, k, 0⟩, mem := t.mem, draws := s.draws + dmaDraws v k }
  copied : ∀ i, i < k → t.mem.read (0xFE00 + i) = s.dmaByte v i
  kept : ∀ a, a < 0xFE00 ∨ 0xFE00 + k ≤ a → t.mem.read a = s.mem.read a

/-- A copy writes the byte read to OAM, keeps the draws of the read, and counts. -/
theorem State.dmaCopy_eq (s : State) {byte : Byte} {draws : Nat}
    (h : s.dmaRead (s.dma.src + BitVec.ofNat 16 s.dma.index) = (byte, { s with draws := draws })) :
    s.dmaCopy =
      { s with
        mem := s.mem.write (0xFE00 + s.dma.index) byte
        draws := draws
        dma := { s.dma with sub := 0, index := s.dma.index + 1, active := !(s.dma.index + 1 == 160) } } := by
  rw [State.dmaCopy, h]
  rfl

/-- The address of a transfer's i-th byte stays in its page. -/
theorem dmaAddr_eq (v : Byte) {i : Nat} (h : i < 160) :
    wordOf v 0 + BitVec.ofNat 16 i = BitVec.ofNat 16 (256 * v.toNat + i) ∧
      (BitVec.ofNat 16 (256 * v.toNat + i)).toNat = 256 * v.toNat + i := by
  have hv := v.isLt
  have hto : (BitVec.ofNat 16 (256 * v.toNat + i)).toNat = 256 * v.toNat + i := by
    rw [BitVec.toNat_ofNat]
    omega
  refine ⟨BitVec.eq_of_toNat_eq ?_, hto⟩
  rw [hto, BitVec.toNat_add, wordOf_toNat, BitVec.toNat_ofNat]
  simp
  omega

/-- The read of the next byte. -/
theorem State.DmaCopied.dmaRead {s t : State} {v : Byte} {k : Nat} (h : s.DmaCopied v k t) (hk : k < 160) :
    t.dmaRead (wordOf v 0 + BitVec.ofNat 16 k) =
      (s.dmaByte v k, { t with draws := s.draws + dmaDraws v (k + 1) }) := by
  obtain ⟨haddr, hto⟩ := dmaAddr_eq v hk
  have hdraws : t.draws = s.draws + dmaDraws v k := by rw [h.only]
  have hparams : t.params = s.params := by rw [h.only]; rfl
  rw [State.dmaRead, haddr, hto, State.dmaByte, dmaDraws]
  rw [dmaDraws] at hdraws
  by_cases hlow : v.toNat < 0xFE
  · rw [if_pos hlow] at hdraws
    rw [if_neg (by omega), if_pos hlow, if_pos hlow, ← hdraws]
    rw [State.dmaBusRead_congr hparams (fun a ha => h.kept a (.inl ha)) (by omega)]
  · rw [if_neg hlow] at hdraws
    rw [if_pos (by omega), if_neg hlow, if_neg hlow, hdraws, Nat.add_assoc]

/-- The copy of the next byte. -/
theorem State.DmaCopied.dmaCopy {s t : State} {v : Byte} {k : Nat} (h : s.DmaCopied v k t) (hk : k < 160) :
    s.DmaCopied v (k + 1) t.dmaCopy := by
  have hsrc : t.dma.src = wordOf v 0 := by rw [h.only]
  have hindex : t.dma.index = k := by rw [h.only]
  have hcopy := t.dmaCopy_eq (by rw [hsrc, hindex]; exact h.dmaRead hk)
  rw [hindex] at hcopy
  have hmem : t.dmaCopy.mem = t.mem.write (0xFE00 + k) (s.dmaByte v k) := by rw [hcopy]
  refine ⟨?_, fun i hi => ?_, fun a ha => ?_⟩
  · rw [hmem, hcopy]
    generalize t.mem.write (0xFE00 + k) (s.dmaByte v k) = m
    rw [h.only]
  · rw [hmem, Memory.read_write]
    by_cases hlast : i = k
    · rw [if_pos (by omega), hlast]
    · rw [if_neg (by omega)]
      exact h.copied i (by omega)
  · rw [hmem, Memory.read_write_other _ _ (by omega)]
    exact h.kept a (by omega)

/-! ### The whole transfer -/

theorem State.dmaCopied_startDma (s : State) (v : Byte) : s.DmaCopied v 0 (s.startDma v) where
  only := by simp [State.startDma, dmaDraws]
  copied := fun i hi => absurd hi (Nat.not_lt_zero i)
  kept := fun _ _ => rfl

/-- 4 dots for each byte. -/
theorem State.dmaCopied_dots (s : State) (v : Byte) {k : Nat} (hk : k ≤ 160) :
    s.DmaCopied v k (repeatTimes (4 * k) State.dmaDot (s.startDma v)) := by
  induction k with
  | zero => exact s.dmaCopied_startDma v
  | succ k ih =>
    have hprev := ih (by omega)
    have hrunning : (k == 160) = false := beq_false_of_ne (by omega)
    rw [Nat.mul_succ, repeatTimes_add, State.dmaDot_four]
    · exact hprev.dmaCopy (by omega)
    · rw [hprev.only, hrunning]
      rfl
    · rw [hprev.only]

theorem State.dmaCopied_all (s : State) (v : Byte) :
    s.DmaCopied v 160 (repeatTimes 640 State.dmaDot (s.memWrite 0xFF46 v)) := by
  rw [s.memWrite_dma]
  exact s.dmaCopied_dots v (Nat.le_refl 160)

/-- Settles O49: below page 0xFE a byte of the transfer is the bus's, which does not see the locks. -/
theorem dmaTransfer : Obligations.DmaTransfer := by
  unfold Obligations.DmaTransfer
  intro s v hv s1 t
  have hstart : s1 = s.startDma v := s.memWrite_dma v
  have hbus : ∀ a : Word, a.toNat < 0xFE00 → s1.dmaBusRead a = s.dmaBusRead a := by
    rw [hstart]
    exact fun a ha => State.dmaBusRead_congr (s := s) (t := s.startDma v) rfl (fun _ _ => rfl) ha
  obtain ⟨honly, hcopied, hkept⟩ : s.DmaCopied v 160 t := s.dmaCopied_all v
  refine ⟨by rw [hstart]; rfl, by rw [hstart]; rfl, by rw [honly]; rfl, fun i hi => ?_, fun a ha => ?_,
    fun a ha => hkept a (by omega), by rw [honly]; rfl, by rw [honly]; rfl, by rw [honly]; rfl, ?_⟩
  · obtain ⟨-, hto⟩ := dmaAddr_eq v hi
    rw [hcopied i hi, State.dmaByte, if_pos hv, hbus _ (by omega)]
  · rw [hbus a ha, ← State.dmaBusRead_eq_memRead _ ha rfl]
    refine State.dmaBusRead_congr ?_ (fun k _ => ?_) ha <;> rfl
  · rw [honly, dmaDraws, if_pos hv]
    rfl

/-- Settles O50: from page 0xFE on each byte of the transfer is a draw. -/
theorem dmaHighPages : Obligations.DmaHighPages := by
  unfold Obligations.DmaHighPages
  intro s v hv t
  have hhigh : ¬v.toNat < 0xFE := by omega
  obtain ⟨honly, hcopied, hkept⟩ : s.DmaCopied v 160 t := s.dmaCopied_all v
  refine ⟨by rw [honly]; rfl, ?_, fun i hi => ?_, fun a ha => hkept a (by omega), by rw [honly]; rfl⟩
  · rw [honly, dmaDraws, if_neg hhigh]
  · rw [hcopied i hi, State.dmaByte, if_neg hhigh]

end Sys2Proof.Machine
end

section
/-!
PROOFS. The PPU's dot (spec/60_exceptions.md R1300 to R1331): a dot is the update of the LCD registers applied to what
its phase leaves, and the lines' ends, the OAM scan and the LCD turned off and on are read off the phase functions.
-/

namespace Sys2Proof.Machine

/-! ### The update of the LCD registers -/

theorem State.requestIf_eq (s : State) (i : IntSource) (asked : Bool) :
    s.requestIf i asked = { s with intFlag := if asked then s.intFlag ||| i.bit else s.intFlag } := by
  cases asked <;> rfl

/-- R1310: an enabled event begins. -/
theorem statEvent_eq (l : Lcd) (p : Ppu) (coinc : Bool) :
    statEvent l p coinc =
      ((l.statEnable.getLsbD 0 && (decide (p.mode = .hBlank) && decide (p.prevMode ≠ .hBlank))) ||
        (l.statEnable.getLsbD 1 && (decide (p.mode = .vBlank) && decide (p.prevMode ≠ .vBlank))) ||
        (l.statEnable.getLsbD 2 && (decide (p.mode = .oamScan) && decide (p.prevMode ≠ .oamScan))) ||
        (l.statEnable.getLsbD 3 && coinc && !p.prevCoinc)) := by
  unfold statEvent
  generalize l.statEnable.getLsbD 0 = e0
  generalize l.statEnable.getLsbD 1 = e1
  generalize l.statEnable.getLsbD 2 = e2
  have hcoinc :
      (coinc && !p.prevCoinc && l.statEnable.getLsbD 3) = (l.statEnable.getLsbD 3 && coinc && !p.prevCoinc) := by
    ac_rfl
  rw [hcoinc]
  congr 1
  cases p.mode <;> cases p.prevMode <;> revert e0 e1 e2 <;> decide

theorem statFires_eq (model : StatIrqModel) (l : Lcd) (p : Ppu) (coinc : Bool) :
    statFires model l p coinc = if model = .event then statEvent l p coinc else statLine l p coinc && !p.prevLine := by
  cases model <;> rfl

/-- R1310: the update, its request written out. -/
theorem State.updateLcdRegs_eq (s : State) :
    s.updateLcdRegs =
      { s with
        lcd := { s.lcd with statMode := s.ppu.mode, statCoinc := s.lcd.ly == s.lcd.lyc }
        ppu := { s.ppu with
          prevMode := s.ppu.mode
          prevCoinc := s.lcd.ly == s.lcd.lyc
          prevLine := statLine s.lcd s.ppu (s.lcd.ly == s.lcd.lyc)
          lcdJustOn := false }
        intFlag :=
          if statFires s.params.statIrqModel s.lcd s.ppu (s.lcd.ly == s.lcd.lyc) &&
              (s.lcdcBit 7 && s.ppu.lcdWasOn && !s.ppu.lcdJustOn) then s.intFlag ||| 0b00010
          else s.intFlag } := by
  rw [State.updateLcdRegs, State.requestIf_eq]
  rfl

section
variable (s : State)

@[simp] theorem State.updateLcdRegs_statMode : s.updateLcdRegs.lcd.statMode = s.ppu.mode := by
  rw [State.updateLcdRegs_eq]
@[simp] theorem State.updateLcdRegs_ly : s.updateLcdRegs.lcd.ly = s.lcd.ly := by rw [State.updateLcdRegs_eq]
@[simp] theorem State.updateLcdRegs_fb : s.updateLcdRegs.fb = s.fb := by rw [State.updateLcdRegs_eq]
@[simp] theorem State.updateLcdRegs_mem : s.updateLcdRegs.mem = s.mem := by rw [State.updateLcdRegs_eq]

@[simp] theorem State.updateLcdRegs_ppu :
    s.updateLcdRegs.ppu =
      { s.ppu with
        prevMode := s.ppu.mode
        prevCoinc := s.lcd.ly == s.lcd.lyc
        prevLine := statLine s.lcd s.ppu (s.lcd.ly == s.lcd.lyc)
        lcdJustOn := false } := by
  rw [State.updateLcdRegs_eq]

end

/-- The update requests LCD/STAT at most. -/
@[simp] theorem State.updateLcdRegs_vBlank_bit (s : State) : s.updateLcdRegs.intFlag[0] = s.intFlag[0] := by
  rw [State.updateLcdRegs_eq]
  simp only
  split
  · simp
  · rfl

/-- With the LCD off, and in the dot that turns it on, nothing is requested. -/
theorem State.updateLcdRegs_intFlag {s : State} (h : s.lcdcBit 7 = false ∨ s.ppu.lcdJustOn = true) :
    s.updateLcdRegs.intFlag = s.intFlag := by
  rw [State.updateLcdRegs_eq]
  rcases h with h | h <;> simp [h]

/-! ### The phase of a dot -/

/-- A dot with the LCD off (R1330). -/
theorem State.ppuDot_off {s : State} (h : s.lcdcBit 7 = false) :
    s.ppuDot = State.updateLcdRegs (if s.ppu.lcdWasOn then s.lcdTurnOff else s) := by
  simp [State.ppuDot, h, State.lcdOffDot]

/-- A dot with the LCD on turns it on first where it was off (R1331). -/
theorem State.ppuDot_on {s : State} (h : s.lcdcBit 7 = true) :
    s.ppuDot = State.runDot (if s.ppu.lcdWasOn then s else s.lcdOnDot) := by
  unfold State.ppuDot
  cases hwas : s.ppu.lcdWasOn <;> simp [h]

/-- `line_dot` at a number. -/
def State.atLineDot (s : State) (n : Nat) : State := { s with ppu := { s.ppu with lineDot := n } }

section
variable {s : State}

theorem State.runDot_wait (h : 0 < s.ppu.wait) :
    s.runDot =
      State.updateLcdRegs { s with ppu := { s.ppu with wait := s.ppu.wait - 1, lineDot := s.ppu.lineDot + 1 } } := by
  rw [State.runDot, if_pos h]

variable (hwait : s.ppu.wait = 0)
include hwait

theorem State.runDot_oamScan (hm : s.ppu.mode = .oamScan) :
    s.runDot = (s.oamPhase.atLineDot (s.oamPhase.ppu.lineDot + 1)).updateLcdRegs := by
  rw [State.runDot, if_neg (by omega), hm]
  rfl

theorem State.runDot_drawPixels (hm : s.ppu.mode = .drawPixels) :
    s.runDot = (s.drawDot.atLineDot (s.drawDot.ppu.lineDot + 1)).updateLcdRegs := by
  rw [State.runDot, if_neg (by omega), hm]
  rfl

theorem State.runDot_hBlank (hm : s.ppu.mode = .hBlank) : s.runDot = (s.hBlankPhase.atLineDot 0).updateLcdRegs := by
  rw [State.runDot, if_neg (by omega), hm]
  rfl

theorem State.runDot_vBlank (hm : s.ppu.mode = .vBlank) : s.runDot = (s.vBlankPhase.atLineDot 0).updateLcdRegs := by
  rw [State.runDot, if_neg (by omega), hm]
  rfl

end

/-- Settles O57: the dot by the LCD's switch, the wait and the mode; the update by `State.updateLcdRegs_eq`. -/
theorem statUpdate : Obligations.StatUpdate := by
  unfold Obligations.StatUpdate
  refine ⟨fun s => ⟨State.ppuDot_off, fun hon => ?_⟩, fun s => ?_⟩
  · intro on phase ended
    have hdot : s.ppuDot = on.runDot := State.ppuDot_on hon
    rw [hdot]
    by_cases hwait : 0 < on.ppu.wait
    · have hphase : phase = { on with ppu := { on.ppu with wait := on.ppu.wait - 1 } } := if_pos hwait
      have hended : ended = false := decide_eq_false fun h => by omega
      rw [State.runDot_wait hwait, hphase, hended]
      rfl
    · have hzero : on.ppu.wait = 0 := by omega
      cases hm : on.ppu.mode with
      | oamScan => simpa [phase, ended, hzero, hm, State.atLineDot] using State.runDot_oamScan hzero hm
      | drawPixels => simpa [phase, ended, hzero, hm, State.atLineDot] using State.runDot_drawPixels hzero hm
      | hBlank => simpa [phase, ended, hzero, hm, State.atLineDot] using State.runDot_hBlank hzero hm
      | vBlank => simpa [phase, ended, hzero, hm, State.atLineDot] using State.runDot_vBlank hzero hm
  · intro t coinc en entered event line fires asked
    have hevent : statEvent s.lcd s.ppu coinc = event := statEvent_eq _ _ _
    have hline : statLine s.lcd s.ppu coinc = line := rfl
    have hfires : statFires s.params.statIrqModel s.lcd s.ppu coinc = fires := by rw [statFires_eq, hevent, hline]
    have hasked : (fires && (s.lcdcBit 7 && s.ppu.lcdWasOn && !s.ppu.lcdJustOn)) = asked := by
      rw [← Bool.and_assoc, ← Bool.and_assoc]
      rfl
    rw [← hasked, ← hfires]
    exact s.updateLcdRegs_eq

/-! ### The ends of lines -/

section
variable {s : State}

/-- H-blank to the next visible line (R1324). -/
theorem State.hBlankPhase_line (h : s.lcd.ly ≠ 143) :
    s.hBlankPhase =
      { s with
        lcd := { s.lcd with ly := s.lcd.ly + 1 }
        ppu := { s.ppu with
          oamLock := false, vramLock := false, palLock := false, mode := .oamScan
          winLine := if s.ppu.winActive then s.ppu.winLine + 1 else s.ppu.winLine } } := by
  have hly : s.lcd.ly + 1 ≠ 144 := by bv_omega
  simp only [State.hBlankPhase, if_neg hly]

/-- H-blank to V-blank, which is requested (R1324). -/
theorem State.hBlankPhase_last (h : s.lcd.ly = 143) :
    s.hBlankPhase =
      { s with
        lcd := { s.lcd with ly := 144 }
        ppu := { s.ppu with
          oamLock := false, vramLock := false, palLock := false, mode := .vBlank, wait := 455
          winLine := if s.ppu.winActive then s.ppu.winLine + 1 else s.ppu.winLine }
        intFlag := s.intFlag ||| 0b00001 } := by
  have hly : s.lcd.ly + 1 = 144 := by rw [h]; rfl
  simp only [State.hBlankPhase, hly]
  rfl

/-- V-blank to its next line (R1325). -/
theorem State.vBlankPhase_line (h : s.lcd.ly ≠ 153) :
    s.vBlankPhase = { s with lcd := { s.lcd with ly := s.lcd.ly + 1 }, ppu := { s.ppu with wait := 455 } } := by
  have hly : s.lcd.ly + 1 ≠ 154 := by bv_omega
  simp only [State.vBlankPhase, if_neg hly]

/-- V-blank to line 0 (R1325). -/
theorem State.vBlankPhase_last (h : s.lcd.ly = 153) :
    s.vBlankPhase =
      { s with lcd := { s.lcd with ly := 0 }, ppu := { s.ppu with winLine := 0, mode := .oamScan } } := by
  have hly : s.lcd.ly + 1 = 154 := by rw [h]; rfl
  simp only [State.vBlankPhase, if_pos hly]

end

/-- Settles O54: the phase function at each of the four line ends, and the update after it, which keeps all but STAT. -/
theorem ppuLineEnds : Obligations.PpuLineEnds := by
  unfold Obligations.PpuLineEnds
  intro s hon hwas hwait t
  have hdot : t = s.runDot := (State.ppuDot_on hon).trans (by rw [if_pos hwas])
  refine ⟨fun hm hly => ?_, fun hm => ?_, fun hm hly => ?_, fun hm hly => ?_, fun hm hly => ?_⟩
  · rw [hdot, State.runDot_hBlank hwait hm, State.hBlankPhase_line hly]
    simp [State.atLineDot]
  · rw [hdot, State.runDot_hBlank hwait hm]
    by_cases hly : s.lcd.ly = 143
    · simp [State.hBlankPhase_last hly, State.atLineDot]
    · simp [State.hBlankPhase_line hly, State.atLineDot]
  · rw [hdot, State.runDot_hBlank hwait hm, State.hBlankPhase_last hly]
    simp [State.atLineDot]
  · rw [hdot, State.runDot_vBlank hwait hm, State.vBlankPhase_line hly]
    simp [State.atLineDot, hm]
  · rw [hdot, State.runDot_vBlank hwait hm, State.vBlankPhase_last hly]
    simp [State.atLineDot]

/-! ### The LCD turned off and on -/

/-- Settles O56: the off state where the LCD was on, nothing where it was off, and the first dot of a scan where it is
turned on, in each case with no request. -/
theorem lcdOffOn : Obligations.LcdOffOn := by
  unfold Obligations.LcdOffOn
  refine fun s => ⟨fun hoff hwas => ?_, fun hoff hwas => ?_, fun hon hwas => ?_⟩
  · intro t
    have hdot : t = s.lcdTurnOff.updateLcdRegs := (State.ppuDot_off hoff).trans (by rw [if_pos hwas])
    have hirq : t.intFlag = s.intFlag := by
      rw [hdot]
      exact State.updateLcdRegs_intFlag (s := s.lcdTurnOff) (.inl hoff)
    rw [hirq, hdot]
    simp [State.lcdTurnOff]
  · intro t
    have hdot : t = s.updateLcdRegs := (State.ppuDot_off hoff).trans (by simp [hwas])
    have hirq : t.intFlag = s.intFlag := by
      rw [hdot]
      exact State.updateLcdRegs_intFlag (.inl hoff)
    rw [hirq, hdot]
    simp
  · intro t
    have hdot : t = (s.lcdOnDot.oamScanBegin.atLineDot 1).updateLcdRegs := by
      refine (State.ppuDot_on hon).trans ?_
      rw [hwas]
      exact State.runDot_oamScan (s := s.lcdOnDot) rfl rfl
    have hirq : t.intFlag = s.intFlag := by
      rw [hdot]
      exact State.updateLcdRegs_intFlag (s := s.lcdOnDot.oamScanBegin.atLineDot 1) (.inr rfl)
    rw [hirq, hdot]
    simp [State.atLineDot, State.oamScanBegin, State.lcdOnDot]

/-! ### The OAM scan -/

/-- A member of a rising list is among its first n, or they are n and all below it. -/
theorem mem_take_of_rising {l : List (Fin 40)} (hrising : l.Pairwise (· < ·)) (n : Nat) {k : Fin 40} (hk : k ∈ l) :
    k ∈ l.take n ∨ ((l.take n).length = n ∧ ∀ j ∈ l.take n, j < k) := by
  rw [← List.take_append_drop n l, List.pairwise_append] at hrising
  obtain ⟨-, -, hbelow⟩ := hrising
  rw [← List.take_append_drop n l, List.mem_append] at hk
  refine hk.imp_right fun hdrop => ⟨?_, fun j hj => hbelow j hj k hdrop⟩
  have hlength := List.length_pos_of_mem hdrop
  rw [List.length_drop] at hlength
  rw [List.length_take]
  omega

/-- The records that meet the line, in OAM order (R1321). -/
def State.onLine (s : State) : List (Fin 40) := (List.finRange 40).filter s.spriteOnLine

theorem State.selectSprites_eq (s : State) :
    s.selectSprites = (s.onLine.take s.params.maxSpritesPerLine).map fun k => ⟨k, false⟩ := rfl

theorem State.onLine_rising (s : State) : s.onLine.Pairwise (· < ·) :=
  (List.pairwise_lt_finRange 40).filter _

theorem State.mem_onLine (s : State) (k : Fin 40) :
    k ∈ s.onLine ↔
      (s.mem.read (0xFE00 + 4 * k.val)).toNat ≤ s.lcd.ly.toNat + 16 ∧
        s.lcd.ly.toNat + 16 <
          (s.mem.read (0xFE00 + 4 * k.val)).toNat + (if s.lcd.lcdc.getLsbD 2 then 16 else 8) := by
  simp [State.onLine, State.spriteOnLine, State.oamByte, State.spriteHeight, State.lcdcBit]

/-- q differs from p in what the background fetcher and the window change, alone. -/
def Ppu.fetcherOnly (p q : Ppu) : Prop :=
  q = { p with winActive := q.winActive, bgFifo := q.bgFifo, fetchX := q.fetchX, discard := q.discard }

theorem Ppu.fetcherOnly_trans {p q r : Ppu} (h : p.fetcherOnly q) (k : q.fetcherOnly r) : p.fetcherOnly r := by
  unfold Ppu.fetcherOnly at *
  rw [k, h]

theorem State.windowCheck_fetcherOnly (s : State) :
    s.windowCheck.fb = s.fb ∧ s.ppu.fetcherOnly s.windowCheck.ppu := by
  unfold State.windowCheck
  split <;> exact ⟨rfl, rfl⟩

theorem State.pushTile_fetcherOnly (s : State) : s.pushTile.fb = s.fb ∧ s.ppu.fetcherOnly s.pushTile.ppu := by
  unfold State.pushTile
  split <;> exact ⟨rfl, rfl⟩

/-- A push into an empty background FIFO leaves too few entries to pop (R1344). -/
theorem State.drawDot_of_empty {s : State} (h : s.ppu.bgFifo = []) :
    s.drawDot.fb = s.fb ∧ s.ppu.fetcherOnly s.drawDot.ppu ∧ s.drawDot.ppu.bgFifo.length = 8 := by
  have hwindow : s.windowCheck.ppu.bgFifo = [] := by
    unfold State.windowCheck
    split
    · rfl
    · exact h
  have hpush : s.windowCheck.pushTile.ppu.bgFifo.length = 8 := by
    unfold State.pushTile
    simp [hwindow]
  have hdot : s.drawDot = s.windowCheck.pushTile := by
    rw [State.drawDot, State.popPixel, if_neg (by omega)]
  obtain ⟨hfb, honly⟩ := s.windowCheck_fetcherOnly
  obtain ⟨hfb', honly'⟩ := s.windowCheck.pushTile_fetcherOnly
  rw [hdot]
  exact ⟨hfb'.trans hfb, Ppu.fetcherOnly_trans honly honly', hpush⟩

/-- The last dot of a scan draws nothing out of an empty background FIFO (R1322). -/
theorem State.oamScanEnd_of_empty {s : State} (h : s.ppu.bgFifo = []) :
    s.oamScanEnd.fb = s.fb ∧
      Ppu.fetcherOnly { s.ppu with scanDone := false, mode := .drawPixels, vramLock := true, palLock := true }
        s.oamScanEnd.ppu ∧
      s.oamScanEnd.ppu.bgFifo.length = 8 :=
  State.drawDot_of_empty h

/-- Settles O55, the last dot by the draw dot that ends it. -/
theorem ppuOamScan : Obligations.PpuOamScan := by
  unfold Obligations.PpuOamScan
  intro s hon hwas hm t meets
  have hdot : t = s.runDot := (State.ppuDot_on hon).trans (by rw [if_pos hwas])
  refine ⟨fun hwait hfirst => ?_, fun hwait => hdot.trans (State.runDot_wait hwait), fun hwait hlast => ?_⟩
  · have hphase : s.oamPhase = s.oamScanBegin := if_neg (by simp [hfirst])
    have ht : t = (s.oamScanBegin.atLineDot (s.ppu.lineDot + 1)).updateLcdRegs := by
      rw [hdot, State.runDot_oamScan hwait hm, hphase]
      rfl
    have hsprites : t.ppu.sprites = (s.onLine.take s.params.maxSpritesPerLine).map fun k => ⟨k, false⟩ := by
      simp [ht, State.atLineDot, State.oamScanBegin, State.selectSprites_eq]
    rw [hsprites]
    refine ⟨ht, ?_, ?_, fun k hk => ?_, fun k hk => ?_⟩
    · simp
    · exact List.pairwise_map.2 (s.onLine_rising.sublist (List.take_sublist _ _))
    · obtain ⟨j, hj, rfl⟩ := List.mem_map.1 hk
      exact ⟨rfl, (s.mem_onLine j).1 (List.mem_of_mem_take hj)⟩
    · have hmem : k ∈ s.onLine := (s.mem_onLine k).2 hk
      refine (mem_take_of_rising s.onLine_rising s.params.maxSpritesPerLine hmem).imp (fun hin => ?_) fun hfull => ?_
      · exact List.mem_map_of_mem hin
      · simpa only [List.length_map, List.forall_mem_map] using hfull
  · intro d
    have hphase : s.oamPhase = s.oamScanEnd := if_pos hlast
    have ht : t = (s.oamScanEnd.atLineDot (s.oamScanEnd.ppu.lineDot + 1)).updateLcdRegs := by
      rw [hdot, State.runDot_oamScan hwait hm, hphase]
    refine ⟨ht, fun hempty => ?_⟩
    obtain ⟨hfb, hppu, hlength⟩ := State.oamScanEnd_of_empty hempty
    have hmode := congrArg Ppu.mode hppu
    have hscan := congrArg Ppu.scanDone hppu
    have hvram := congrArg Ppu.vramLock hppu
    have hpal := congrArg Ppu.palLock hppu
    have hoam := congrArg Ppu.oamLock hppu
    have hx := congrArg Ppu.x hppu
    rw [ht]
    simp [State.atLineDot, hfb, hlength, hmode, hscan, hvram, hpal, hoam, hx]

end Sys2Proof.Machine
end

section
/-!
PROOFS. The pixel pipeline (spec/60_exceptions.md R1340 to R1356): a tile row and a sprite's row entry by entry, the
walk of the sprites fetched at a column as a filter and a fold, and one output pixel.
-/

namespace Sys2Proof.Machine

open Sys2Proof

/-! ### Colours and shades -/

theorem twoBits_bits (hi lo : Bool) : (twoBits hi lo).getLsbD 1 = hi ∧ (twoBits hi lo).getLsbD 0 = lo := by
  cases hi <;> cases lo <;> exact ⟨rfl, rfl⟩

/-- A shade's two bits are the palette's at twice the colour (R124, R125). -/
theorem shadeOf_bits (palette : Byte) (c : Shade) :
    (shadeOf palette c).getLsbD 1 = palette.getLsbD (2 * c.toNat + 1) ∧
      (shadeOf palette c).getLsbD 0 = palette.getLsbD (2 * c.toNat) := by
  simp [shadeOf]

/-- The colour of an entry of a tile row: its bit of each plane, leftmost first (R1341). -/
theorem tileRow_entry (lo hi : Byte) {k : Nat} (h : k < 8) :
    (tileRow lo hi)[k]? = some (twoBits (hi.getLsbD (7 - k)) (lo.getLsbD (7 - k))) := by
  interval_cases k <;> rfl

/-- The same of a row that may be flipped: reversed, it is rightmost first (R1351). -/
theorem tileRow_flipped_entry (lo hi : Byte) (flip : Bool) {k : Nat} (h : k < 8) :
    (if flip then (tileRow lo hi).reverse else tileRow lo hi)[k]? =
      some (twoBits (hi.getLsbD (if flip then k else 7 - k)) (lo.getLsbD (if flip then k else 7 - k))) := by
  cases flip
  · exact tileRow_entry lo hi h
  · interval_cases k <;> rfl

/-! ### The tile fetch -/

/-- The signed mode of a tile number, as two unsigned ranges (R1342). -/
theorem tileAddr_eq (unsigned : Bool) (id : Byte) :
    tileAddr unsigned id =
      if unsigned then 0x8000 + 16 * id.toNat
      else if id.toNat < 0x80 then 0x9000 + 16 * id.toNat else 0x8800 + 16 * (id.toNat - 0x80) := by
  unfold tileAddr signed8
  split
  · rfl
  · rw [BitVec.toInt_eq_toNat_cond]
    split <;> split <;> omega

/-- The map byte's address by its map, row and column (R1341). -/
theorem State.mapAddr_eq (s : State) :
    s.mapAddr =
      (if (if s.ppu.winActive then s.lcdcBit 6 else s.lcdcBit 3) then 0x9C00 else 0x9800) +
        32 * ((if s.ppu.winActive then s.ppu.winLine.toNat else s.ppu.bgRow.toNat) / 8) +
        (if s.ppu.winActive then s.ppu.fetchX % 32 else (s.ppu.scxLatch.toNat / 8 + s.ppu.fetchX) % 32) := by
  unfold State.mapAddr
  cases s.ppu.winActive <;> rfl

/-- The background entry of a colour (R1341). -/
def bgEntry (palette : Byte) (c : Shade) : BgPixel := ⟨c, shadeOf palette c⟩

/-- Settles O58: the fetched tile is the row at the address the map names, its entries those of `tileRow_entry`. -/
theorem tileFetch : Obligations.TileFetch := by
  unfold Obligations.TileFetch
  refine ⟨fun s hfull => if_neg (by omega), fun s hroom => ?_⟩
  intro lcdc row col map id tile lo hi
  have hid : s.mem.read s.mapAddr = id := by rw [s.mapAddr_eq]; rfl
  have haddr : tileAddr (s.lcdcBit 4) (s.mem.read s.mapAddr) + 2 * s.fetchRow = tile + 2 * (row % 8) := by
    rw [hid, tileAddr_eq]
    rfl
  have hfetched : s.fetchedTile = (tileRow lo hi).map (bgEntry s.lcd.bgp) := by
    simp only [State.fetchedTile, haddr]
    rfl
  refine ⟨s.fetchedTile, if_pos hroom, s.fetchedTile_length, fun k hk => ?_⟩
  have hentry : s.fetchedTile[k]? = some (bgEntry s.lcd.bgp (twoBits (hi.getLsbD (7 - k)) (lo.getLsbD (7 - k)))) := by
    rw [hfetched, List.getElem?_map, tileRow_entry lo hi hk]
    rfl
  obtain ⟨hcolour1, hcolour0⟩ := twoBits_bits (hi.getLsbD (7 - k)) (lo.getLsbD (7 - k))
  obtain ⟨hshade1, hshade0⟩ := shadeOf_bits s.lcd.bgp (twoBits (hi.getLsbD (7 - k)) (lo.getLsbD (7 - k)))
  exact ⟨_, hentry, hcolour1, hcolour0, hshade1, hshade0⟩

/-! ### The sprites a column fetches -/

section
variable (s : State)

theorem spriteStarts_eq (sx x : Nat) :
    spriteStarts sx x = (decide (sx = x + 8) || decide (x = 0 ∧ 1 ≤ sx ∧ sx ≤ 7)) := by
  rw [spriteStarts, Bool.decide_and, Bool.decide_and, ← Bool.and_assoc]
  rfl

/-- A sprite that is fetched before the pixel at the output column (R1350). -/
def State.fetches (k : SpriteSlot) : Bool := !k.fetched && spriteStarts (s.oamByte k.index 1).toNat s.ppu.x

/-- Its row without the part left of the screen (R1350). -/
def State.shownRow (k : SpriteSlot) : List ObjPixel := (s.spriteRow k.index).drop (8 - (s.oamByte k.index 1).toNat)

/-- The walk marks the sprites it fetches, and merges their rows in list order. -/
theorem State.fetchSpritesFrom_eq (l : List SpriteSlot) (q : List ObjPixel) :
    s.fetchSpritesFrom l q =
      (l.map fun k => if s.fetches k then { k with fetched := true } else k,
        ((l.filter s.fetches).map s.shownRow).foldl mergeSprite q) := by
  induction l generalizing q with
  | nil => rfl
  | cons k ks ih =>
    unfold State.fetchSpritesFrom
    simp only [ih]
    by_cases hk : s.fetches k = true
    · have hcond : (!k.fetched && spriteStarts (s.oamByte k.index 1).toNat s.ppu.x) = true := hk
      rw [if_pos hcond, List.map_cons, if_pos hk, List.filter_cons_of_pos hk]
      rfl
    · have hcond : ¬(!k.fetched && spriteStarts (s.oamByte k.index 1).toNat s.ppu.x) = true := hk
      rw [if_neg hcond, List.map_cons, if_neg hk, List.filter_cons_of_neg hk]

end

/-! ### A sprite's row -/

theorem and_0xFE_toNat (b : Byte) : (b &&& 0xFE).toNat = 2 * (b.toNat / 2) := by
  revert b
  decide

/-- The row of the sprite that the current line shows, counted from the bottom when it is flipped (R1351). -/
def State.spriteLine (s : State) (k : Fin 40) : Nat :=
  if (s.oamByte k 3).getLsbD 6 then s.spriteHeight - 1 - (s.lcd.ly.toNat + 16 - (s.oamByte k 0).toNat)
  else s.lcd.ly.toNat + 16 - (s.oamByte k 0).toNat

/-- The address of that row's low plane (R1342, R1351). -/
def State.spriteAddr (s : State) (k : Fin 40) : Nat :=
  0x8000 + 16 * (if s.lcdcBit 2 then s.oamByte k 2 &&& 0xFE else s.oamByte k 2).toNat + 2 * s.spriteLine k

/-- The palette byte 3 of the record names (R1351). -/
def State.spritePalette (s : State) (k : Fin 40) : Byte :=
  if (s.oamByte k 3).getLsbD 4 then s.lcd.obp1 else s.lcd.obp0

/-- The sprite entry of a colour (R1351). -/
def objEntry (palette : Byte) (priority : Bool) (c : Shade) : ObjPixel := ⟨c, shadeOf palette c, priority, c == 0⟩

theorem State.spriteOnLine_not (s : State) (k : Fin 40) :
    (decide (s.lcd.ly.toNat + 16 < (s.oamByte k 0).toNat) ||
      decide ((s.oamByte k 0).toNat + s.spriteHeight ≤ s.lcd.ly.toNat + 16)) = !s.spriteOnLine k := by
  rw [State.spriteOnLine, Bool.not_and, ← decide_not, ← decide_not]
  simp only [Nat.not_le, Nat.not_lt]

/-- Where the line misses the sprite its row is blank (R1351). -/
theorem State.spriteRow_missed {s : State} {k : Fin 40} (h : s.spriteOnLine k = false) :
    s.spriteRow k = List.replicate 8 ObjPixel.blank := by
  unfold State.spriteRow
  simp only [s.spriteOnLine_not k, h, Bool.not_false, if_true]

/-- Where the line meets it, its row is that line's, which may be flipped (R1351). -/
theorem State.spriteRow_met {s : State} {k : Fin 40} (h : s.spriteOnLine k = true) :
    s.spriteRow k =
      (if (s.oamByte k 3).getLsbD 5 then
          (tileRow (s.mem.read (s.spriteAddr k)) (s.mem.read (s.spriteAddr k + 1))).reverse
        else tileRow (s.mem.read (s.spriteAddr k)) (s.mem.read (s.spriteAddr k + 1))).map
          (objEntry (s.spritePalette k) ((s.oamByte k 3).getLsbD 7)) := by
  unfold State.spriteRow
  simp only [s.spriteOnLine_not k, h, Bool.not_true, Bool.false_eq_true, if_false]
  rfl

theorem State.spriteRow_entry {s : State} {k : Fin 40} (h : s.spriteOnLine k = true) {i : Nat} (hi : i < 8) :
    (s.spriteRow k)[i]? =
      some (objEntry (s.spritePalette k) ((s.oamByte k 3).getLsbD 7)
        (twoBits ((s.mem.read (s.spriteAddr k + 1)).getLsbD (if (s.oamByte k 3).getLsbD 5 then i else 7 - i))
          ((s.mem.read (s.spriteAddr k)).getLsbD (if (s.oamByte k 3).getLsbD 5 then i else 7 - i)))) := by
  rw [State.spriteRow_met h, List.getElem?_map, tileRow_flipped_entry _ _ _ hi]
  rfl

/-! ### The merge -/

/-- The merge position by position (R1352). -/
theorem mergeSprite_entry (q p : List ObjPixel) (k : Nat) :
    (mergeSprite q p)[k]? =
      (match q[k]?, p[k]? with
        | none, e => e
        | some e, none => some e
        | some e, some f => some (if e.transparent then f else e)) := by
  induction q generalizing p k with
  | nil => simp [mergeSprite]
  | cons a q ih =>
    cases p with
    | nil => cases h : (a :: q)[k]? <;> simp [mergeSprite, h]
    | cons b p =>
      cases k with
      | zero => simp [mergeSprite]
      | succ k => simpa [mergeSprite] using ih p k

theorem State.spriteOnLine_iff (s : State) (k : Fin 40) :
    s.spriteOnLine k = true ↔
      (s.oamByte k 0).toNat ≤ s.lcd.ly.toNat + 16 ∧
        s.lcd.ly.toNat + 16 < (s.oamByte k 0).toNat + s.spriteHeight := by
  simp [State.spriteOnLine]

/-- Settles O59: the walk by `State.fetchSpritesFrom_eq`, the row where the line meets and misses the sprite, and the
merge. -/
theorem spriteFetch : Obligations.SpriteFetch := by
  unfold Obligations.SpriteFetch
  refine ⟨fun s => ?_, fun s k => ?_, fun s k => ?_, mergeSprite_entry⟩
  · intro xByte starts shown
    have hstarts : s.fetches = starts := by
      funext k
      exact congrArg (!k.fetched && ·) (spriteStarts_eq _ _)
    have hshown : s.shownRow = shown := by
      funext k
      have hdrop : 8 - xByte k = if xByte k < 8 then 8 - xByte k else 0 := by
        split <;> omega
      exact congrArg (fun n => (s.spriteRow k.index).drop n) hdrop
    rw [State.fetchSprites, s.fetchSpritesFrom_eq, hstarts, hshown]
  · intro byte attr h htop hbottom r0 r tile lo hi pal
    have hon : s.spriteOnLine k = true := (s.spriteOnLine_iff k).2 ⟨htop, hbottom⟩
    have haddr : s.spriteAddr k = 0x8000 + 16 * tile + 2 * r := by
      have htile : (if s.lcdcBit 2 then s.oamByte k 2 &&& 0xFE else s.oamByte k 2).toNat = tile := by
        rw [apply_ite BitVec.toNat, and_0xFE_toNat]
        rfl
      rw [State.spriteAddr, htile]
      rfl
    refine ⟨s.spriteRow_length k, fun i hi8 => ?_⟩
    have hentry := State.spriteRow_entry hon hi8
    rw [haddr] at hentry
    obtain ⟨hcolour1, hcolour0⟩ :=
      twoBits_bits (hi.getLsbD (if attr.getLsbD 5 then i else 7 - i)) (lo.getLsbD (if attr.getLsbD 5 then i else 7 - i))
    exact ⟨_, hentry, hcolour1, hcolour0, (shadeOf_bits _ _).1, (shadeOf_bits _ _).2, rfl, rfl⟩
  · intro y h hout
    have hmissed : s.spriteOnLine k = false := by
      rw [← Bool.not_eq_true, s.spriteOnLine_iff]
      rintro ⟨htop, hbottom⟩
      exact hout.elim (fun habove => absurd htop (Nat.not_le.2 habove))
        fun hbelow => absurd hbottom (Nat.not_lt.2 hbelow)
    rw [State.spriteRow_missed hmissed]
    exact ⟨List.length_replicate, fun e he => by rw [List.eq_of_mem_replicate he]; rfl⟩

/-! ### The window -/

theorem State.windowStarts_iff (s : State) :
    s.windowStarts = true ↔
      s.ppu.winActive = false ∧ s.lcd.lcdc.getLsbD 5 = true ∧ s.lcd.wy.toNat ≤ s.lcd.ly.toNat ∧
        s.lcd.wx.toNat ≤ s.ppu.x + 7 := by
  simp [State.windowStarts, State.lcdcBit, and_assoc]

/-! ### One output pixel -/

/-- What one output pixel leaves, but for the end of mode 3: the shade is written, both FIFOs pop and the column
advances (R1340, R1356). -/
def State.pixelWritten (s : State) (b : BgPixel) (bs : List BgPixel) : State :=
  { s.fetchSprites with
    fb := s.fb.write s.lcd.ly.toNat s.ppu.x (s.composite b s.fetchSprites.ppu.objFifo.head?)
    ppu := { s.fetchSprites.ppu with
      bgFifo := bs, objFifo := s.fetchSprites.ppu.objFifo.tail, x := s.ppu.x + 1 } }

section
variable {s : State} {b : BgPixel} {bs : List BgPixel} (hfifo : s.ppu.bgFifo = b :: bs)
include hfifo

/-- The line's last pixel ends mode 3 (R1323). -/
theorem State.outputPixel_eq :
    s.outputPixel = if s.ppu.x + 1 = 160 then (s.pixelWritten b bs).endDraw else s.pixelWritten b bs := by
  have hfetched : s.fetchSprites.ppu.bgFifo = b :: bs := hfifo
  unfold State.outputPixel
  simp only [hfetched]
  rfl

/-- With a full background FIFO and nothing to discard the pop is an output pixel (R1344, R1345). -/
theorem State.popPixel_output (hfull : 8 ≤ bs.length) (hdiscard : s.ppu.discard = 0) :
    s.popPixel = s.outputPixel := by
  rw [State.popPixel, hfifo, List.length_cons, if_pos (by omega), if_neg (by omega)]

end

theorem State.pixelWritten_fb (s : State) (b : BgPixel) (bs : List BgPixel) (hx : s.ppu.x < 160) :
    (s.pixelWritten b bs).fb.read s.lcd.ly.toNat s.ppu.x = s.composite b s.fetchSprites.ppu.objFifo.head? ∧
      ∀ y x : Nat, x < 160 → (y ≠ s.lcd.ly.toNat ∨ x ≠ s.ppu.x) →
        (s.pixelWritten b bs).fb.read y x = s.fb.read y x := by
  refine ⟨?_, fun y x hx' hne => ?_⟩
  · exact (Framebuffer.read_write _ _ _ _ _ _).trans (if_pos rfl)
  · refine (Framebuffer.read_write _ _ _ _ _ _).trans (if_neg fun hpos => ?_)
    obtain ⟨hy, hcol⟩ := Framebuffer.pos_inj hx' hx hpos
    exact hne.elim (absurd hy) (absurd hcol)

/-- When a sprite's pixel wins over the background's (R1355). -/
theorem spriteWins_iff (shown transparent honoured priority : Bool) (colour : Shade) :
    (shown && !transparent && !(honoured && priority && colour != 0)) = true ↔
      shown = true ∧ transparent = false ∧ ¬(honoured = true ∧ priority = true ∧ colour ≠ 0) := by
  simp only [Bool.and_eq_true, Bool.not_eq_true', ← Bool.not_eq_true, bne_iff_ne, and_assoc]

/-- The composite of a background entry and the FIFO's first sprite entry (R1355). -/
theorem State.composite_eq (s : State) (b : BgPixel) (objs : List ObjPixel) :
    s.composite b objs.head? =
      (match objs with
        | [] => (if s.lcd.lcdc.getLsbD 0 then b else ⟨0, 0⟩).shade
        | o :: _ =>
          if s.lcd.lcdc.getLsbD 1 = true ∧ o.transparent = false ∧
              ¬(s.params.objPriorityHonoured = true ∧ o.priority = true ∧
                (if s.lcd.lcdc.getLsbD 0 then b else ⟨0, 0⟩ : BgPixel).colour ≠ 0) then o.shade
          else (if s.lcd.lcdc.getLsbD 0 then b else ⟨0, 0⟩).shade) := by
  unfold State.composite State.lcdcBit
  cases objs with
  | nil => rfl
  | cons o objs => exact if_congr (spriteWins_iff _ _ _ _ _) rfl rfl

/-- Settles O60: the three parts of a draw dot, and the output pixel written out. -/
theorem pixelOutput : Obligations.PixelOutput := by
  unfold Obligations.PixelOutput
  refine ⟨fun s => ?_, fun s b bs hfifo hfull hdiscard hly hx => ?_⟩
  · intro starts
    refine ⟨rfl, fun hstarts => ?_, fun hstarts => ?_, fun hfew => ?_, fun hfull hdiscard => ?_⟩
    · have hwx : 7 - s.lcd.wx.toNat = if s.lcd.wx.toNat < 7 then 7 - s.lcd.wx.toNat else 0 := by
        split <;> omega
      rw [State.windowCheck, if_pos (s.windowStarts_iff.2 hstarts), ← hwx]
    · exact if_neg (mt s.windowStarts_iff.1 hstarts)
    · exact if_neg (Nat.not_lt.2 hfew)
    · rw [State.popPixel, if_pos hfull, if_pos hdiscard, List.drop_one]
  · intro bg objs shade t
    have ht : t = if s.ppu.x + 1 = 160 then (s.pixelWritten b bs).endDraw else s.pixelWritten b bs :=
      (State.popPixel_output hfifo hfull hdiscard).trans (State.outputPixel_eq hfifo)
    obtain ⟨hpixel, hothers⟩ := s.pixelWritten_fb b bs hx
    have hshade : s.composite b s.fetchSprites.ppu.objFifo.head? = shade := s.composite_eq b objs
    rw [hshade] at hpixel
    by_cases hlast : s.ppu.x + 1 = 160
    · rw [ht, if_pos hlast]
      exact ⟨hpixel, hothers, rfl, rfl, rfl, rfl, rfl, rfl, rfl, fun _ => ⟨rfl, rfl, rfl, rfl, rfl⟩,
        fun hmore => absurd hlast (by omega)⟩
    · rw [ht, if_neg hlast]
      exact ⟨hpixel, hothers, rfl, rfl, rfl, rfl, rfl, rfl, rfl, fun hend => absurd hend (by omega),
        fun _ => ⟨rfl, rfl⟩⟩

end Sys2Proof.Machine
end
